-- ==== Sys2Proof/Word.lean ====
section
/-! DEFINITION. The two word sizes of the machine: a byte is 8 bits, a word 16 (00_scope.md R6, R7). -/

namespace Sys2Proof

/-- A byte: DATA_WIDTH = 8 (00_scope.md R6). -/
abbrev Byte := BitVec 8

/-- A word: ADDR_WIDTH = IO_ADDR_WIDTH = 16 (00_scope.md R6). -/
abbrev Word := BitVec 16

end Sys2Proof
end

