-- ==== Sys2Proof/Machine/Bits.lean ====
section
/-! DEFINITION. Bytes, words and bits: the notation of 00_scope.md R7, R8. -/

namespace Sys2Proof

/-- `hi(w)` = w[15:8] (00_scope.md R8). -/
def hi (w : Word) : Byte := w.extractLsb' 8 8

/-- `lo(w)` = w[7:0] (00_scope.md R8). -/
def lo (w : Word) : Byte := w.extractLsb' 0 8

/-- `h:l`, the word with high byte `h` and low byte `l` (00_scope.md R7). -/
def joinBytes (h l : Byte) : Word := h ++ l

/-- `sext_16(d)` (00_scope.md R8). -/
def sext16 (d : Byte) : Word := d.signExtend 16

/-- `zext_16(v)` (00_scope.md R8). -/
def zext16 (v : Byte) : Word := v.setWidth 16

/-- `parity(v)`: true when v has an even number of 1 bits (00_scope.md R8). -/
def parity (v : Byte) : Bool :=
  !(v.getLsbD 0 ^^ v.getLsbD 1 ^^ v.getLsbD 2 ^^ v.getLsbD 3 ^^ v.getLsbD 4 ^^ v.getLsbD 5 ^^ v.getLsbD 6 ^^ v.getLsbD 7)

/-- The byte whose only 1 bit is bit `b`: `1 << b` of 45_rotate_bit.md R420. -/
def bitMask (b : BitVec 3) : Byte := 1#8 <<< b.toNat

end Sys2Proof
end

