-- ==== Sys2Proof/Syntax.lean ====
section
/-! DEFINITION. The instruction set as data: the operand tables of 30_encoding.md R104 and one constructor for each
instruction of spec/opcode_table.json (206 instructions; the table's 212 rows split four of them by their masks, log 14). -/

namespace Sys2Proof

/-- r[ ]: an 8-bit register operand (30_encoding.md R104). Index 6 of the table is `(HL)`, which has constructors of its own. -/
inductive Reg8 where
  | b | c | d | e | h | l | a
  deriving DecidableEq, Repr

/-- r[ ] after an index prefix: H and L stand for the halves XYH and XYL (30_encoding.md R110). -/
inductive XYReg8 where
  | b | c | d | e | xyh | xyl | a
  deriving DecidableEq, Repr

/-- rp[ ] (30_encoding.md R104). -/
inductive RegPair where
  | bc | de | hl | sp
  deriving DecidableEq, Repr

/-- rp2[ ], the operand of PUSH and POP (30_encoding.md R104). -/
inductive StackPair where
  | bc | de | hl | af
  deriving DecidableEq, Repr

/-- rp[ ] after an index prefix: HL stands for XY (30_encoding.md R110, 44_alu16.md R351). -/
inductive XYPair where
  | bc | de | xy | sp
  deriving DecidableEq, Repr

/-- cc[ ] (30_encoding.md R104, 46_control.md R450). -/
inductive Cond where
  | nz | z | nc | c | po | pe | p | m
  deriving DecidableEq, Repr

/-- The index register an index prefix selects: 0xDD is IX, 0xFD is IY (30_encoding.md R109). -/
inductive IndexReg where
  | ix | iy
  deriving DecidableEq, Repr

/-- An instruction. Operands: `r`, `rp`, `cc` of the tables above; `n` an immediate byte; `nn` an immediate word; `d` a
displacement byte; `e` a relative jump byte; `p` the index register; `b` a bit number; `y`, `z`, `op` raw opcode fields that
the decoder keeps (the encodings of one instruction that differ in them are told apart, log 14). -/
inductive Instr where
  -- the unprefixed map (30_encoding.md R105)
  /-- `NOP` (R550). -/
  | nop
  /-- `LD rp,nn` (R200). -/
  | ldRpNn (rp : RegPair) (nn : Word)
  /-- `LD (BC),A` (R163). -/
  | ldMemBCA
  /-- `LD (DE),A` (R164). -/
  | ldMemDEA
  /-- `LD A,(BC)` (R160). -/
  | ldAMemBC
  /-- `LD A,(DE)` (R161). -/
  | ldAMemDE
  /-- `INC rp` (R354). -/
  | incRp (rp : RegPair)
  /-- `DEC rp` (R356). -/
  | decRp (rp : RegPair)
  /-- `INC r` (R310). -/
  | incR (r : Reg8)
  /-- `INC (HL)` (R311). -/
  | incMemHL
  /-- `DEC r` (R312). -/
  | decR (r : Reg8)
  /-- `DEC (HL)` (R313). -/
  | decMemHL
  /-- `LD r,n` (R152). -/
  | ldRN (r : Reg8) (n : Byte)
  /-- `LD (HL),n` (R158). -/
  | ldMemHLN (n : Byte)
  /-- `RLCA` (R400). -/
  | rlca
  /-- `RRCA` (R401). -/
  | rrca
  /-- `RLA` (R402). -/
  | rla
  /-- `RRA` (R403). -/
  | rra
  /-- `DAA` (R320). -/
  | daa
  /-- `CPL` (R321). -/
  | cpl
  /-- `SCF` (R324). -/
  | scf
  /-- `CCF` (R323). -/
  | ccf
  /-- `EX AF,AF'` (R215). -/
  | exAFAF
  /-- `ADD HL,rp` (R350). -/
  | addHLRp (rp : RegPair)
  /-- `DJNZ e` (R455). -/
  | djnz (e : Byte)
  /-- `JR e` (R453). -/
  | jr (e : Byte)
  /-- `JR cc,e` (R454). -/
  | jrCc (cc : Cond) (e : Byte)
  /-- `LD (nn),HL` (R205). -/
  | ldMemNnHL (nn : Word)
  /-- `LD HL,(nn)` (R202). -/
  | ldHLMemNn (nn : Word)
  /-- `LD (nn),A` (R165). -/
  | ldMemNnA (nn : Word)
  /-- `LD A,(nn)` (R162). -/
  | ldAMemNn (nn : Word)
  /-- `LD r,r'` (R150). -/
  | ldRR (dst src : Reg8)
  /-- `LD r,(HL)` (R154). -/
  | ldRMemHL (r : Reg8)
  /-- `LD (HL),r` (R156). -/
  | ldMemHLR (r : Reg8)
  /-- `HALT` (R552). -/
  | halt
  /-- `ADD A,r` (R302). -/
  | addAR (r : Reg8)
  /-- `ADD A,(HL)` (R302). -/
  | addAMemHL
  /-- `ADD A,n` (R302). -/
  | addAN (n : Byte)
  /-- `ADC A,r` (R303). -/
  | adcAR (r : Reg8)
  /-- `ADC A,(HL)` (R303). -/
  | adcAMemHL
  /-- `ADC A,n` (R303). -/
  | adcAN (n : Byte)
  /-- `SUB r` (R304). -/
  | subR (r : Reg8)
  /-- `SUB (HL)` (R304). -/
  | subMemHL
  /-- `SUB n` (R304). -/
  | subN (n : Byte)
  /-- `SBC A,r` (R305). -/
  | sbcAR (r : Reg8)
  /-- `SBC A,(HL)` (R305). -/
  | sbcAMemHL
  /-- `SBC A,n` (R305). -/
  | sbcAN (n : Byte)
  /-- `AND r` (R306). -/
  | andR (r : Reg8)
  /-- `AND (HL)` (R306). -/
  | andMemHL
  /-- `AND n` (R306). -/
  | andN (n : Byte)
  /-- `XOR r` (R307). -/
  | xorR (r : Reg8)
  /-- `XOR (HL)` (R307). -/
  | xorMemHL
  /-- `XOR n` (R307). -/
  | xorN (n : Byte)
  /-- `OR r` (R308). -/
  | orR (r : Reg8)
  /-- `OR (HL)` (R308). -/
  | orMemHL
  /-- `OR n` (R308). -/
  | orN (n : Byte)
  /-- `CP r` (R309). -/
  | cpR (r : Reg8)
  /-- `CP (HL)` (R309). -/
  | cpMemHL
  /-- `CP n` (R309). -/
  | cpN (n : Byte)
  /-- `RET cc` (R463). -/
  | retCc (cc : Cond)
  /-- `POP rp2` (R212). -/
  | popRp2 (rp : StackPair)
  /-- `JP cc,nn` (R452). -/
  | jpCc (cc : Cond) (nn : Word)
  /-- `JP nn` (R451). -/
  | jp (nn : Word)
  /-- `CALL cc,nn` (R461). -/
  | callCc (cc : Cond) (nn : Word)
  /-- `PUSH rp2` (R210). -/
  | pushRp2 (rp : StackPair)
  /-- `RST t` (R475). -/
  | rst (y : BitVec 3)
  /-- `RET` (R462). -/
  | ret
  /-- `CALL nn` (R460). -/
  | call (nn : Word)
  /-- `OUT (n),A` (R501). -/
  | outNA (n : Byte)
  /-- `EXX` (R216). -/
  | exx
  /-- `IN A,(n)` (R500). -/
  | inAN (n : Byte)
  /-- `EX (SP),HL` (R217). -/
  | exMemSPHL
  /-- `JP (HL)` (R456). -/
  | jpHL
  /-- `EX DE,HL` (R214). -/
  | exDEHL
  /-- `DI` (R553). -/
  | di
  /-- `LD SP,HL` (R208). -/
  | ldSPHL
  /-- `EI` (R554). -/
  | ei
  -- the CB map (30_encoding.md R106)
  /-- `RLC r` (R406). -/
  | rlcR (r : Reg8)
  /-- `RLC (HL)` (R406). -/
  | rlcMemHL
  /-- `RRC r` (R407). -/
  | rrcR (r : Reg8)
  /-- `RRC (HL)` (R407). -/
  | rrcMemHL
  /-- `RL r` (R408). -/
  | rlR (r : Reg8)
  /-- `RL (HL)` (R408). -/
  | rlMemHL
  /-- `RR r` (R409). -/
  | rrR (r : Reg8)
  /-- `RR (HL)` (R409). -/
  | rrMemHL
  /-- `SLA r` (R410). -/
  | slaR (r : Reg8)
  /-- `SLA (HL)` (R410). -/
  | slaMemHL
  /-- `SRA r` (R411). -/
  | sraR (r : Reg8)
  /-- `SRA (HL)` (R411). -/
  | sraMemHL
  /-- `SLL r` (R412). -/
  | sllR (r : Reg8)
  /-- `SLL (HL)` (R412). -/
  | sllMemHL
  /-- `SRL r` (R413). -/
  | srlR (r : Reg8)
  /-- `SRL (HL)` (R413). -/
  | srlMemHL
  /-- `BIT b,r` (R420). -/
  | bitR (b : BitVec 3) (r : Reg8)
  /-- `BIT b,(HL)` (R421). -/
  | bitMemHL (b : BitVec 3)
  /-- `RES b,r` (R425). -/
  | resR (b : BitVec 3) (r : Reg8)
  /-- `RES b,(HL)` (R425). -/
  | resMemHL (b : BitVec 3)
  /-- `SET b,r` (R426). -/
  | setR (b : BitVec 3) (r : Reg8)
  /-- `SET b,(HL)` (R426). -/
  | setMemHL (b : BitVec 3)
  -- the ED map (30_encoding.md R107, R108)
  /-- `NONI` (R571). -/
  | noni (op : Byte)
  /-- `IN r,(C)` (R502). -/
  | inRC (r : Reg8)
  /-- `IN (C)` (R503). -/
  | inC
  /-- `OUT (C),r` (R504). -/
  | outCR (r : Reg8)
  /-- `OUT (C),0` (R505). -/
  | outC0
  /-- `SBC HL,rp` (R353). -/
  | sbcHLRp (rp : RegPair)
  /-- `ADC HL,rp` (R352). -/
  | adcHLRp (rp : RegPair)
  /-- `LD (nn),rp` (R207). -/
  | ldMemNnRp (nn : Word) (rp : RegPair)
  /-- `LD rp,(nn)` (R204). -/
  | ldRpMemNn (rp : RegPair) (nn : Word)
  /-- `NEG` (R322). -/
  | neg (y : BitVec 3)
  /-- `RETN` (R470). -/
  | retn (y : BitVec 3)
  /-- `RETI` (R470). -/
  | reti
  /-- `IM m` (R555). -/
  | im (y : BitVec 3)
  /-- `LD I,A` (R562). -/
  | ldIA
  /-- `LD R,A` (R563). -/
  | ldRA
  /-- `LD A,I` (R560). -/
  | ldAI
  /-- `LD A,R` (R561). -/
  | ldAR
  /-- `RRD` (R416). -/
  | rrd
  /-- `RLD` (R415). -/
  | rld
  /-- `LDI` (R250). -/
  | ldi
  /-- `CPI` (R254). -/
  | cpi
  /-- `INI` (R506). -/
  | ini
  /-- `OUTI` (R508). -/
  | outi
  /-- `LDD` (R251). -/
  | ldd
  /-- `CPD` (R255). -/
  | cpd
  /-- `IND` (R507). -/
  | ind
  /-- `OUTD` (R509). -/
  | outd
  /-- `LDIR` (R252). -/
  | ldir
  /-- `CPIR` (R256). -/
  | cpir
  /-- `INIR` (R511). -/
  | inir
  /-- `OTIR` (R513). -/
  | otir
  /-- `LDDR` (R253). -/
  | lddr
  /-- `CPDR` (R257). -/
  | cpdr
  /-- `INDR` (R512). -/
  | indr
  /-- `OTDR` (R514). -/
  | otdr
  -- the index prefixes (30_encoding.md R109 to R112)
  /-- `prefix (ignored)` (R570). -/
  | prefixIgnored (p : IndexReg)
  /-- `ADD XY,rp` (R351). -/
  | addXYRp (p : IndexReg) (rp : XYPair)
  /-- `LD XY,nn` (R201). -/
  | ldXYNn (p : IndexReg) (nn : Word)
  /-- `LD (nn),XY` (R206). -/
  | ldMemNnXY (nn : Word) (p : IndexReg)
  /-- `INC XY` (R355). -/
  | incXY (p : IndexReg)
  /-- `INC XYH` (R310). -/
  | incXYH (p : IndexReg)
  /-- `DEC XYH` (R312). -/
  | decXYH (p : IndexReg)
  /-- `LD XYH,n` (R153). -/
  | ldXYHN (p : IndexReg) (n : Byte)
  /-- `LD XY,(nn)` (R203). -/
  | ldXYMemNn (p : IndexReg) (nn : Word)
  /-- `DEC XY` (R357). -/
  | decXY (p : IndexReg)
  /-- `INC XYL` (R310). -/
  | incXYL (p : IndexReg)
  /-- `DEC XYL` (R312). -/
  | decXYL (p : IndexReg)
  /-- `LD XYL,n` (R153). -/
  | ldXYLN (p : IndexReg) (n : Byte)
  /-- `INC (XY+d)` (R311). -/
  | incMemXYd (p : IndexReg) (d : Byte)
  /-- `DEC (XY+d)` (R313). -/
  | decMemXYd (p : IndexReg) (d : Byte)
  /-- `LD (XY+d),n` (R159). -/
  | ldMemXYdN (p : IndexReg) (d : Byte) (n : Byte)
  /-- `LD r,XYH` (R151). -/
  | ldRXYH (r : XYReg8) (p : IndexReg)
  /-- `LD r,XYL` (R151). -/
  | ldRXYL (r : XYReg8) (p : IndexReg)
  /-- `LD XYH,r` (R151). -/
  | ldXYHR (p : IndexReg) (r : Reg8)
  /-- `LD XYL,r` (R151). -/
  | ldXYLR (p : IndexReg) (r : Reg8)
  /-- `LD r,(XY+d)` (R155). -/
  | ldRMemXYd (r : Reg8) (p : IndexReg) (d : Byte)
  /-- `LD (XY+d),r` (R157). -/
  | ldMemXYdR (p : IndexReg) (d : Byte) (r : Reg8)
  /-- `ADD A,XYH` (R302). -/
  | addAXYH (p : IndexReg)
  /-- `ADD A,XYL` (R302). -/
  | addAXYL (p : IndexReg)
  /-- `ADD A,(XY+d)` (R302). -/
  | addAMemXYd (p : IndexReg) (d : Byte)
  /-- `ADC A,XYH` (R303). -/
  | adcAXYH (p : IndexReg)
  /-- `ADC A,XYL` (R303). -/
  | adcAXYL (p : IndexReg)
  /-- `ADC A,(XY+d)` (R303). -/
  | adcAMemXYd (p : IndexReg) (d : Byte)
  /-- `SUB XYH` (R304). -/
  | subXYH (p : IndexReg)
  /-- `SUB XYL` (R304). -/
  | subXYL (p : IndexReg)
  /-- `SUB (XY+d)` (R304). -/
  | subMemXYd (p : IndexReg) (d : Byte)
  /-- `SBC A,XYH` (R305). -/
  | sbcAXYH (p : IndexReg)
  /-- `SBC A,XYL` (R305). -/
  | sbcAXYL (p : IndexReg)
  /-- `SBC A,(XY+d)` (R305). -/
  | sbcAMemXYd (p : IndexReg) (d : Byte)
  /-- `AND XYH` (R306). -/
  | andXYH (p : IndexReg)
  /-- `AND XYL` (R306). -/
  | andXYL (p : IndexReg)
  /-- `AND (XY+d)` (R306). -/
  | andMemXYd (p : IndexReg) (d : Byte)
  /-- `XOR XYH` (R307). -/
  | xorXYH (p : IndexReg)
  /-- `XOR XYL` (R307). -/
  | xorXYL (p : IndexReg)
  /-- `XOR (XY+d)` (R307). -/
  | xorMemXYd (p : IndexReg) (d : Byte)
  /-- `OR XYH` (R308). -/
  | orXYH (p : IndexReg)
  /-- `OR XYL` (R308). -/
  | orXYL (p : IndexReg)
  /-- `OR (XY+d)` (R308). -/
  | orMemXYd (p : IndexReg) (d : Byte)
  /-- `CP XYH` (R309). -/
  | cpXYH (p : IndexReg)
  /-- `CP XYL` (R309). -/
  | cpXYL (p : IndexReg)
  /-- `CP (XY+d)` (R309). -/
  | cpMemXYd (p : IndexReg) (d : Byte)
  /-- `POP XY` (R213). -/
  | popXY (p : IndexReg)
  /-- `EX (SP),XY` (R218). -/
  | exMemSPXY (p : IndexReg)
  /-- `PUSH XY` (R211). -/
  | pushXY (p : IndexReg)
  /-- `JP (XY)` (R457). -/
  | jpXY (p : IndexReg)
  /-- `LD SP,XY` (R209). -/
  | ldSPXY (p : IndexReg)
  /-- `RLC (XY+d)` (R406). -/
  | rlcMemXYd (p : IndexReg) (d : Byte)
  /-- `RLC (XY+d),r` (R427). -/
  | rlcMemXYdR (p : IndexReg) (d : Byte) (r : Reg8)
  /-- `RRC (XY+d)` (R407). -/
  | rrcMemXYd (p : IndexReg) (d : Byte)
  /-- `RRC (XY+d),r` (R427). -/
  | rrcMemXYdR (p : IndexReg) (d : Byte) (r : Reg8)
  /-- `RL (XY+d)` (R408). -/
  | rlMemXYd (p : IndexReg) (d : Byte)
  /-- `RL (XY+d),r` (R427). -/
  | rlMemXYdR (p : IndexReg) (d : Byte) (r : Reg8)
  /-- `RR (XY+d)` (R409). -/
  | rrMemXYd (p : IndexReg) (d : Byte)
  /-- `RR (XY+d),r` (R427). -/
  | rrMemXYdR (p : IndexReg) (d : Byte) (r : Reg8)
  /-- `SLA (XY+d)` (R410). -/
  | slaMemXYd (p : IndexReg) (d : Byte)
  /-- `SLA (XY+d),r` (R427). -/
  | slaMemXYdR (p : IndexReg) (d : Byte) (r : Reg8)
  /-- `SRA (XY+d)` (R411). -/
  | sraMemXYd (p : IndexReg) (d : Byte)
  /-- `SRA (XY+d),r` (R427). -/
  | sraMemXYdR (p : IndexReg) (d : Byte) (r : Reg8)
  /-- `SLL (XY+d)` (R412). -/
  | sllMemXYd (p : IndexReg) (d : Byte)
  /-- `SLL (XY+d),r` (R427). -/
  | sllMemXYdR (p : IndexReg) (d : Byte) (r : Reg8)
  /-- `SRL (XY+d)` (R413). -/
  | srlMemXYd (p : IndexReg) (d : Byte)
  /-- `SRL (XY+d),r` (R427). -/
  | srlMemXYdR (p : IndexReg) (d : Byte) (r : Reg8)
  /-- `BIT b,(XY+d)` (R422). -/
  | bitMemXYd (b : BitVec 3) (p : IndexReg) (d : Byte) (z : BitVec 3)
  /-- `RES b,(XY+d)` (R425). -/
  | resMemXYd (b : BitVec 3) (p : IndexReg) (d : Byte)
  /-- `RES b,(XY+d),r` (R427). -/
  | resMemXYdR (b : BitVec 3) (p : IndexReg) (d : Byte) (r : Reg8)
  /-- `SET b,(XY+d)` (R426). -/
  | setMemXYd (b : BitVec 3) (p : IndexReg) (d : Byte)
  /-- `SET b,(XY+d),r` (R427). -/
  | setMemXYdR (b : BitVec 3) (p : IndexReg) (d : Byte) (r : Reg8)
  deriving DecidableEq, Repr

end Sys2Proof
end

