-- ==== Sys2Proof/WellFormed.lean ====
section
/-! DEFINITION. Which terms of `Instr` stand for an instruction of the opcode table: the operand values that the table's
rows exclude. -/

namespace Sys2Proof

/-- The ED opcodes that execute as NONI (30_encoding.md R108). -/
def isNoni (op : Byte) : Bool :=
  let n := op.toNat
  n ≤ 0x3F || (0x80 ≤ n && n ≤ 0x9F) || (0xA4 ≤ n && n ≤ 0xA7) || (0xAC ≤ n && n ≤ 0xAF) ||
    (0xB4 ≤ n && n ≤ 0xB7) || 0xBC ≤ n || n == 0x77 || n == 0x7F

/-- The conditions JR has: cc[y-4] is NZ, Z, NC or C (30_encoding.md R104). -/
def Cond.isJr : Cond → Bool
  | .nz | .z | .nc | .c => true
  | .po | .pe | .p | .m => false

/-- The registers that keep their name after an index prefix; with H or L the row is another one (40_load8.md R151). -/
def Reg8.plain : Reg8 → Bool
  | .b | .c | .d | .e | .a => true
  | .h | .l => false

/-- The well-formed instructions: JR takes only NZ, Z, NC, C; RETN is every y but 1, which is RETI (46_control.md R470);
NONI is an opcode of R108; LD XYH,r and LD XYL,r name B, C, D, E or A. -/
def Instr.wf : Instr → Bool
  | .jrCc cc _ => cc.isJr
  | .retn y => y != 1
  | .noni op => isNoni op
  | .ldXYHR _ r => r.plain
  | .ldXYLR _ r => r.plain
  | .nop | .ldRpNn _ _ | .ldMemBCA | .ldMemDEA | .ldAMemBC | .ldAMemDE | .incRp _ | .decRp _ | .incR _ | .incMemHL
  | .decR _ | .decMemHL | .ldRN _ _ | .ldMemHLN _ | .rlca | .rrca | .rla | .rra | .daa | .cpl | .scf | .ccf
  | .exAFAF | .addHLRp _ | .djnz _ | .jr _ | .ldMemNnHL _ | .ldHLMemNn _ | .ldMemNnA _ | .ldAMemNn _ | .ldRR _ _
  | .ldRMemHL _ | .ldMemHLR _ | .halt | .addAR _ | .addAMemHL | .addAN _ | .adcAR _ | .adcAMemHL | .adcAN _
  | .subR _ | .subMemHL | .subN _ | .sbcAR _ | .sbcAMemHL | .sbcAN _ | .andR _ | .andMemHL | .andN _ | .xorR _
  | .xorMemHL | .xorN _ | .orR _ | .orMemHL | .orN _ | .cpR _ | .cpMemHL | .cpN _ | .retCc _ | .popRp2 _
  | .jpCc _ _ | .jp _ | .callCc _ _ | .pushRp2 _ | .rst _ | .ret | .call _ | .outNA _ | .exx | .inAN _ | .exMemSPHL
  | .jpHL | .exDEHL | .di | .ldSPHL | .ei | .rlcR _ | .rlcMemHL | .rrcR _ | .rrcMemHL | .rlR _ | .rlMemHL | .rrR _
  | .rrMemHL | .slaR _ | .slaMemHL | .sraR _ | .sraMemHL | .sllR _ | .sllMemHL | .srlR _ | .srlMemHL | .bitR _ _
  | .bitMemHL _ | .resR _ _ | .resMemHL _ | .setR _ _ | .setMemHL _ | .inRC _ | .inC | .outCR _ | .outC0
  | .sbcHLRp _ | .adcHLRp _ | .ldMemNnRp _ _ | .ldRpMemNn _ _ | .neg _ | .reti | .im _ | .ldIA | .ldRA | .ldAI
  | .ldAR | .rrd | .rld | .ldi | .cpi | .ini | .outi | .ldd | .cpd | .ind | .outd | .ldir | .cpir | .inir | .otir
  | .lddr | .cpdr | .indr | .otdr | .prefixIgnored _ | .addXYRp _ _ | .ldXYNn _ _ | .ldMemNnXY _ _ | .incXY _
  | .incXYH _ | .decXYH _ | .ldXYHN _ _ | .ldXYMemNn _ _ | .decXY _ | .incXYL _ | .decXYL _ | .ldXYLN _ _
  | .incMemXYd _ _ | .decMemXYd _ _ | .ldMemXYdN _ _ _ | .ldRXYH _ _ | .ldRXYL _ _ | .ldRMemXYd _ _ _
  | .ldMemXYdR _ _ _ | .addAXYH _ | .addAXYL _ | .addAMemXYd _ _ | .adcAXYH _ | .adcAXYL _ | .adcAMemXYd _ _
  | .subXYH _ | .subXYL _ | .subMemXYd _ _ | .sbcAXYH _ | .sbcAXYL _ | .sbcAMemXYd _ _ | .andXYH _ | .andXYL _
  | .andMemXYd _ _ | .xorXYH _ | .xorXYL _ | .xorMemXYd _ _ | .orXYH _ | .orXYL _ | .orMemXYd _ _ | .cpXYH _
  | .cpXYL _ | .cpMemXYd _ _ | .popXY _ | .exMemSPXY _ | .pushXY _ | .jpXY _ | .ldSPXY _ | .rlcMemXYd _ _
  | .rlcMemXYdR _ _ _ | .rrcMemXYd _ _ | .rrcMemXYdR _ _ _ | .rlMemXYd _ _ | .rlMemXYdR _ _ _ | .rrMemXYd _ _
  | .rrMemXYdR _ _ _ | .slaMemXYd _ _ | .slaMemXYdR _ _ _ | .sraMemXYd _ _ | .sraMemXYdR _ _ _ | .sllMemXYd _ _
  | .sllMemXYdR _ _ _ | .srlMemXYd _ _ | .srlMemXYdR _ _ _ | .bitMemXYd _ _ _ _ | .resMemXYd _ _ _
  | .resMemXYdR _ _ _ _ | .setMemXYd _ _ _ | .setMemXYdR _ _ _ _ => true

end Sys2Proof
end

