-- ==== Sys2Proof/Decode.lean ====
section
/-! DEFINITION. The decoder, total on any bytes (30_encoding.md R100 to R114), the format, length and M1 count of each
instruction (R100), and after them the encoder, written from the same encoding tables. -/

namespace Sys2Proof

/-- x = op[7:6] (30_encoding.md R101). -/
def xField (op : Byte) : BitVec 2 := op.extractLsb' 6 2

/-- y = op[5:3] (30_encoding.md R101). -/
def yField (op : Byte) : BitVec 3 := op.extractLsb' 3 3

/-- z = op[2:0] (30_encoding.md R101). -/
def zField (op : Byte) : BitVec 3 := op.extractLsb' 0 3

/-- p = op[5:4] (30_encoding.md R101). -/
def pField (op : Byte) : BitVec 2 := op.extractLsb' 4 2

/-- q = op[3] (30_encoding.md R101). -/
def qField (op : Byte) : Bool := op.getLsbD 3

/-- r[ ]; none at index 6, the memory operand (30_encoding.md R104). -/
def decodeReg8 : BitVec 3 → Option Reg8
  | 0 => some .b
  | 1 => some .c
  | 2 => some .d
  | 3 => some .e
  | 4 => some .h
  | 5 => some .l
  | 6 => none
  | 7 => some .a

/-- r[ ] with H, L replaced by XYH, XYL; none at index 6 (30_encoding.md R110). -/
def decodeXYReg8 : BitVec 3 → Option XYReg8
  | 0 => some .b
  | 1 => some .c
  | 2 => some .d
  | 3 => some .e
  | 4 => some .xyh
  | 5 => some .xyl
  | 6 => none
  | 7 => some .a

/-- rp[ ] (30_encoding.md R104). -/
def decodeRegPair : BitVec 2 → RegPair
  | 0 => .bc
  | 1 => .de
  | 2 => .hl
  | 3 => .sp

/-- rp2[ ] (30_encoding.md R104). -/
def decodeStackPair : BitVec 2 → StackPair
  | 0 => .bc
  | 1 => .de
  | 2 => .hl
  | 3 => .af

/-- rp[ ] with HL replaced by XY (30_encoding.md R110). -/
def decodeXYPair : BitVec 2 → XYPair
  | 0 => .bc
  | 1 => .de
  | 2 => .xy
  | 3 => .sp

/-- cc[ ] (30_encoding.md R104). -/
def decodeCond : BitVec 3 → Cond
  | 0 => .nz
  | 1 => .z
  | 2 => .nc
  | 3 => .c
  | 4 => .po
  | 5 => .pe
  | 6 => .p
  | 7 => .m

/-- alu[y] r[z] (30_encoding.md R104, R105). -/
def decodeAluR (y : BitVec 3) (r : Reg8) : Instr :=
  match y with
  | 0 => .addAR r
  | 1 => .adcAR r
  | 2 => .subR r
  | 3 => .sbcAR r
  | 4 => .andR r
  | 5 => .xorR r
  | 6 => .orR r
  | 7 => .cpR r

/-- alu[y] (HL) (30_encoding.md R104, R105). -/
def decodeAluMemHL : BitVec 3 → Instr
  | 0 => .addAMemHL
  | 1 => .adcAMemHL
  | 2 => .subMemHL
  | 3 => .sbcAMemHL
  | 4 => .andMemHL
  | 5 => .xorMemHL
  | 6 => .orMemHL
  | 7 => .cpMemHL

/-- alu[y] n (30_encoding.md R104, R105). -/
def decodeAluN (y : BitVec 3) (n : Byte) : Instr :=
  match y with
  | 0 => .addAN n
  | 1 => .adcAN n
  | 2 => .subN n
  | 3 => .sbcAN n
  | 4 => .andN n
  | 5 => .xorN n
  | 6 => .orN n
  | 7 => .cpN n

/-- The quarter x = 0 of the unprefixed map (30_encoding.md R105). -/
def decodeX0 (op n : Byte) (nn : Word) : Instr :=
  match zField op with
  | 0 =>
    match yField op with
    | 0 => .nop
    | 1 => .exAFAF
    | 2 => .djnz n
    | 3 => .jr n
    | 4 => .jrCc .nz n
    | 5 => .jrCc .z n
    | 6 => .jrCc .nc n
    | 7 => .jrCc .c n
  | 1 => if qField op then .addHLRp (decodeRegPair (pField op)) else .ldRpNn (decodeRegPair (pField op)) nn
  | 2 =>
    match yField op with
    | 0 => .ldMemBCA
    | 1 => .ldAMemBC
    | 2 => .ldMemDEA
    | 3 => .ldAMemDE
    | 4 => .ldMemNnHL nn
    | 5 => .ldHLMemNn nn
    | 6 => .ldMemNnA nn
    | 7 => .ldAMemNn nn
  | 3 => if qField op then .decRp (decodeRegPair (pField op)) else .incRp (decodeRegPair (pField op))
  | 4 => match decodeReg8 (yField op) with
    | some r => .incR r
    | none => .incMemHL
  | 5 => match decodeReg8 (yField op) with
    | some r => .decR r
    | none => .decMemHL
  | 6 => match decodeReg8 (yField op) with
    | some r => .ldRN r n
    | none => .ldMemHLN n
  | 7 =>
    match yField op with
    | 0 => .rlca
    | 1 => .rrca
    | 2 => .rla
    | 3 => .rra
    | 4 => .daa
    | 5 => .cpl
    | 6 => .scf
    | 7 => .ccf

/-- The quarter x = 1 of the unprefixed map: LD r,r' and HALT (30_encoding.md R105). -/
def decodeX1 (op : Byte) : Instr :=
  match decodeReg8 (yField op), decodeReg8 (zField op) with
  | some dst, some src => .ldRR dst src
  | some r, none => .ldRMemHL r
  | none, some r => .ldMemHLR r
  | none, none => .halt

/-- The quarter x = 3 of the unprefixed map (30_encoding.md R105). The four prefix bytes are read before it
(`decodeBytes`); it gives them the next entry of their column's shape, which is never used. -/
def decodeX3 (op n : Byte) (nn : Word) : Instr :=
  match zField op with
  | 0 => .retCc (decodeCond (yField op))
  | 1 =>
    if qField op then
      match pField op with
      | 0 => .ret
      | 1 => .exx
      | 2 => .jpHL
      | 3 => .ldSPHL
    else .popRp2 (decodeStackPair (pField op))
  | 2 => .jpCc (decodeCond (yField op)) nn
  | 3 =>
    match yField op with
    | 0 | 1 => .jp nn
    | 2 => .outNA n
    | 3 => .inAN n
    | 4 => .exMemSPHL
    | 5 => .exDEHL
    | 6 => .di
    | 7 => .ei
  | 4 => .callCc (decodeCond (yField op)) nn
  | 5 => if qField op then .call nn else .pushRp2 (decodeStackPair (pField op))
  | 6 => decodeAluN (yField op) n
  | 7 => .rst (yField op)

/-- The unprefixed map (30_encoding.md R105): `n` is the byte after the opcode, `nn` the word after it. -/
def decodeMain (op n : Byte) (nn : Word) : Instr :=
  match xField op with
  | 0 => decodeX0 op n nn
  | 1 => decodeX1 op
  | 2 => match decodeReg8 (zField op) with
    | some r => decodeAluR (yField op) r
    | none => decodeAluMemHL (yField op)
  | 3 => decodeX3 op n nn

/-- rot[y] r[z] (30_encoding.md R106). -/
def decodeRotR (y : BitVec 3) (r : Reg8) : Instr :=
  match y with
  | 0 => .rlcR r
  | 1 => .rrcR r
  | 2 => .rlR r
  | 3 => .rrR r
  | 4 => .slaR r
  | 5 => .sraR r
  | 6 => .sllR r
  | 7 => .srlR r

/-- rot[y] (HL) (30_encoding.md R106). -/
def decodeRotMemHL : BitVec 3 → Instr
  | 0 => .rlcMemHL
  | 1 => .rrcMemHL
  | 2 => .rlMemHL
  | 3 => .rrMemHL
  | 4 => .slaMemHL
  | 5 => .sraMemHL
  | 6 => .sllMemHL
  | 7 => .srlMemHL

/-- The CB map (30_encoding.md R106). -/
def decodeCB (op : Byte) : Instr :=
  match xField op, decodeReg8 (zField op) with
  | 0, some r => decodeRotR (yField op) r
  | 0, none => decodeRotMemHL (yField op)
  | 1, some r => .bitR (yField op) r
  | 1, none => .bitMemHL (yField op)
  | 2, some r => .resR (yField op) r
  | 2, none => .resMemHL (yField op)
  | 3, some r => .setR (yField op) r
  | 3, none => .setMemHL (yField op)

/-- The quarter x = 1 of the ED map (30_encoding.md R107). -/
def decodeEDX1 (op : Byte) (nn : Word) : Instr :=
  match zField op with
  | 0 => match decodeReg8 (yField op) with
    | some r => .inRC r
    | none => .inC
  | 1 => match decodeReg8 (yField op) with
    | some r => .outCR r
    | none => .outC0
  | 2 => if qField op then .adcHLRp (decodeRegPair (pField op)) else .sbcHLRp (decodeRegPair (pField op))
  | 3 => if qField op then .ldRpMemNn (decodeRegPair (pField op)) nn else .ldMemNnRp nn (decodeRegPair (pField op))
  | 4 => .neg (yField op)
  | 5 => if yField op = 1 then .reti else .retn (yField op)
  | 6 => .im (yField op)
  | 7 =>
    match yField op with
    | 0 => .ldIA
    | 1 => .ldRA
    | 2 => .ldAI
    | 3 => .ldAR
    | 4 => .rrd
    | 5 => .rld
    | 6 | 7 => .noni op

/-- The block instructions of the ED map; every other opcode of its quarter x = 2 is NONI (30_encoding.md R107, R108). -/
def decodeEDX2 (op : Byte) : Instr :=
  match yField op, zField op with
  | 4, 0 => .ldi
  | 4, 1 => .cpi
  | 4, 2 => .ini
  | 4, 3 => .outi
  | 5, 0 => .ldd
  | 5, 1 => .cpd
  | 5, 2 => .ind
  | 5, 3 => .outd
  | 6, 0 => .ldir
  | 6, 1 => .cpir
  | 6, 2 => .inir
  | 6, 3 => .otir
  | 7, 0 => .lddr
  | 7, 1 => .cpdr
  | 7, 2 => .indr
  | 7, 3 => .otdr
  | _, _ => .noni op

/-- The ED map; every opcode it does not list is NONI (30_encoding.md R107, R108). -/
def decodeED (op : Byte) (nn : Word) : Instr :=
  match xField op with
  | 1 => decodeEDX1 op nn
  | 2 => decodeEDX2 op
  | 0 | 3 => .noni op

/-- alu[y] XYH (43_alu8.md R301). -/
def decodeAluXYH (y : BitVec 3) (p : IndexReg) : Instr :=
  match y with
  | 0 => .addAXYH p
  | 1 => .adcAXYH p
  | 2 => .subXYH p
  | 3 => .sbcAXYH p
  | 4 => .andXYH p
  | 5 => .xorXYH p
  | 6 => .orXYH p
  | 7 => .cpXYH p

/-- alu[y] XYL (43_alu8.md R301). -/
def decodeAluXYL (y : BitVec 3) (p : IndexReg) : Instr :=
  match y with
  | 0 => .addAXYL p
  | 1 => .adcAXYL p
  | 2 => .subXYL p
  | 3 => .sbcAXYL p
  | 4 => .andXYL p
  | 5 => .xorXYL p
  | 6 => .orXYL p
  | 7 => .cpXYL p

/-- alu[y] (XY+d) (43_alu8.md R301). -/
def decodeAluMemXYd (y : BitVec 3) (p : IndexReg) (d : Byte) : Instr :=
  match y with
  | 0 => .addAMemXYd p d
  | 1 => .adcAMemXYd p d
  | 2 => .subMemXYd p d
  | 3 => .sbcAMemXYd p d
  | 4 => .andMemXYd p d
  | 5 => .xorMemXYd p d
  | 6 => .orMemXYd p d
  | 7 => .cpMemXYd p d

/-- rot[y] (XY+d) (30_encoding.md R112). -/
def decodeRotMemXYd (y : BitVec 3) (p : IndexReg) (d : Byte) : Instr :=
  match y with
  | 0 => .rlcMemXYd p d
  | 1 => .rrcMemXYd p d
  | 2 => .rlMemXYd p d
  | 3 => .rrMemXYd p d
  | 4 => .slaMemXYd p d
  | 5 => .sraMemXYd p d
  | 6 => .sllMemXYd p d
  | 7 => .srlMemXYd p d

/-- rot[y] (XY+d) with the result copied to r[z] (30_encoding.md R112). -/
def decodeRotMemXYdR (y : BitVec 3) (p : IndexReg) (d : Byte) (r : Reg8) : Instr :=
  match y with
  | 0 => .rlcMemXYdR p d r
  | 1 => .rrcMemXYdR p d r
  | 2 => .rlMemXYdR p d r
  | 3 => .rrMemXYdR p d r
  | 4 => .slaMemXYdR p d r
  | 5 => .sraMemXYdR p d r
  | 6 => .sllMemXYdR p d r
  | 7 => .srlMemXYdR p d r

/-- The XDCB4 form: the CB fields over (XY+d), the displacement before the opcode (30_encoding.md R112). -/
def decodeXYCB (p : IndexReg) (d op : Byte) : Instr :=
  match xField op, decodeReg8 (zField op) with
  | 0, some r => decodeRotMemXYdR (yField op) p d r
  | 0, none => decodeRotMemXYd (yField op) p d
  | 1, _ => .bitMemXYd (yField op) p d (zField op)
  | 2, some r => .resMemXYdR (yField op) p d r
  | 2, none => .resMemXYd (yField op) p d
  | 3, some r => .setMemXYdR (yField op) p d r
  | 3, none => .setMemXYd (yField op) p d

/-- The quarter x = 1 after an index prefix: LD with XYH, XYL or (XY+d); the opcodes that name none of them, and HALT, leave
the prefix ignored (30_encoding.md R109, R110, R111; 40_load8.md R151). -/
def decodeXYX1 (p : IndexReg) (op d : Byte) : Instr :=
  match decodeReg8 (yField op), decodeReg8 (zField op) with
  | none, none => .prefixIgnored p
  | some r, none => .ldRMemXYd r p d
  | none, some r => .ldMemXYdR p d r
  | some dst, some src =>
    match decodeXYReg8 (yField op) with
    | none => .prefixIgnored p
    | some r =>
      match src with
      | .h => .ldRXYH r p
      | .l => .ldRXYL r p
      | _ =>
        match dst with
        | .h => .ldXYHR p src
        | .l => .ldXYLR p src
        | _ => .prefixIgnored p

/-- The map after an index prefix: the AFFECTED opcodes, with XY in the place of HL (30_encoding.md R109, R110); before any
other byte the prefix is ignored (R111). `b2`, `b3` are the bytes after the opcode. -/
def decodeXY (p : IndexReg) (op b2 b3 : Byte) : Instr :=
  match xField op with
  | 0 =>
    match zField op, yField op with
    | 1, 1 | 1, 3 | 1, 5 | 1, 7 => .addXYRp p (decodeXYPair (pField op))
    | 1, 4 => .ldXYNn p (joinBytes b3 b2)
    | 2, 4 => .ldMemNnXY (joinBytes b3 b2) p
    | 2, 5 => .ldXYMemNn p (joinBytes b3 b2)
    | 3, 4 => .incXY p
    | 3, 5 => .decXY p
    | 4, 4 => .incXYH p
    | 4, 5 => .incXYL p
    | 4, 6 => .incMemXYd p b2
    | 5, 4 => .decXYH p
    | 5, 5 => .decXYL p
    | 5, 6 => .decMemXYd p b2
    | 6, 4 => .ldXYHN p b2
    | 6, 5 => .ldXYLN p b2
    | 6, 6 => .ldMemXYdN p b2 b3
    | _, _ => .prefixIgnored p
  | 1 => decodeXYX1 p op b2
  | 2 =>
    match zField op with
    | 4 => decodeAluXYH (yField op) p
    | 5 => decodeAluXYL (yField op) p
    | 6 => decodeAluMemXYd (yField op) p b2
    | _ => .prefixIgnored p
  | 3 =>
    match op with
    | 0xCB => decodeXYCB p b2 b3
    | 0xE1 => .popXY p
    | 0xE3 => .exMemSPXY p
    | 0xE5 => .pushXY p
    | 0xE9 => .jpXY p
    | 0xF9 => .ldSPXY p
    | _ => .prefixIgnored p

/-- The instruction that four bytes in fetch order begin with (30_encoding.md R113). No encoding is illegal (R114). Bytes past
the instruction's end do not matter, but for an ignored prefix, which its next byte makes one (R111). -/
def decodeBytes (b0 b1 b2 b3 : Byte) : Instr :=
  match b0 with
  | 0xCB => decodeCB b1
  | 0xED => decodeED b1 (joinBytes b3 b2)
  | 0xDD => decodeXY .ix b1 b2 b3
  | 0xFD => decodeXY .iy b1 b2 b3
  | _ => decodeMain b0 b1 (joinBytes b2 b1)

/-- The instruction formats (30_encoding.md R100). -/
inductive Format where
  | u1 | u2n | u2e | u3nn | cB2 | eD2 | eD4nn | xD2 | xD3d | xD3n | xD4nn | xD4dn | xDCB4 | xP1
  deriving DecidableEq, Repr

/-- The length of each format in bytes (30_encoding.md R100). -/
def Format.length : Format → Nat
  | .u1 | .xP1 => 1
  | .u2n | .u2e | .cB2 | .eD2 | .xD2 => 2
  | .u3nn | .xD3d | .xD3n => 3
  | .eD4nn | .xD4nn | .xD4dn | .xDCB4 => 4

/-- The M1 fetches of each format (30_encoding.md R100). -/
def Format.m1Fetches : Format → Nat
  | .u1 | .u2n | .u2e | .u3nn | .xP1 => 1
  | .cB2 | .eD2 | .eD4nn | .xD2 | .xD3d | .xD3n | .xD4nn | .xD4dn | .xDCB4 => 2

/-- How many leading bits of the instruction spec/opcode_table.json gives a row of the format in its match and mask. -/
def Format.tableBits : Format → Nat
  | .u1 | .u2n | .u2e | .u3nn | .xP1 => 8
  | .cB2 | .eD2 | .eD4nn | .xD2 | .xD3d | .xD3n | .xD4nn | .xD4dn => 16
  | .xDCB4 => 32

/-- The format of each instruction (30_encoding.md R100; the table's `format` column). -/
def Instr.format : Instr → Format
  | .nop | .ldMemBCA | .ldMemDEA | .ldAMemBC | .ldAMemDE | .incRp _ | .decRp _ | .incR _ | .incMemHL | .decR _
  | .decMemHL | .rlca | .rrca | .rla | .rra | .daa | .cpl | .scf | .ccf | .exAFAF | .addHLRp _ | .ldRR _ _
  | .ldRMemHL _ | .ldMemHLR _ | .halt | .addAR _ | .addAMemHL | .adcAR _ | .adcAMemHL | .subR _ | .subMemHL
  | .sbcAR _ | .sbcAMemHL | .andR _ | .andMemHL | .xorR _ | .xorMemHL | .orR _ | .orMemHL | .cpR _ | .cpMemHL
  | .retCc _ | .popRp2 _ | .pushRp2 _ | .rst _ | .ret | .exx | .exMemSPHL | .jpHL | .exDEHL | .di | .ldSPHL | .ei => .u1
  | .ldRpNn _ _ | .ldMemNnHL _ | .ldHLMemNn _ | .ldMemNnA _ | .ldAMemNn _ | .jpCc _ _ | .jp _ | .callCc _ _
  | .call _ => .u3nn
  | .ldRN _ _ | .ldMemHLN _ | .addAN _ | .adcAN _ | .subN _ | .sbcAN _ | .andN _ | .xorN _ | .orN _ | .cpN _
  | .outNA _ | .inAN _ => .u2n
  | .djnz _ | .jr _ | .jrCc _ _ => .u2e
  | .rlcR _ | .rlcMemHL | .rrcR _ | .rrcMemHL | .rlR _ | .rlMemHL | .rrR _ | .rrMemHL | .slaR _ | .slaMemHL
  | .sraR _ | .sraMemHL | .sllR _ | .sllMemHL | .srlR _ | .srlMemHL | .bitR _ _ | .bitMemHL _ | .resR _ _
  | .resMemHL _ | .setR _ _ | .setMemHL _ => .cB2
  | .noni _ | .inRC _ | .inC | .outCR _ | .outC0 | .sbcHLRp _ | .adcHLRp _ | .neg _ | .retn _ | .reti | .im _
  | .ldIA | .ldRA | .ldAI | .ldAR | .rrd | .rld | .ldi | .cpi | .ini | .outi | .ldd | .cpd | .ind | .outd | .ldir
  | .cpir | .inir | .otir | .lddr | .cpdr | .indr | .otdr => .eD2
  | .ldMemNnRp _ _ | .ldRpMemNn _ _ => .eD4nn
  | .prefixIgnored _ => .xP1
  | .addXYRp _ _ | .incXY _ | .incXYH _ | .decXYH _ | .decXY _ | .incXYL _ | .decXYL _ | .ldRXYH _ _ | .ldRXYL _ _
  | .ldXYHR _ _ | .ldXYLR _ _ | .addAXYH _ | .addAXYL _ | .adcAXYH _ | .adcAXYL _ | .subXYH _ | .subXYL _
  | .sbcAXYH _ | .sbcAXYL _ | .andXYH _ | .andXYL _ | .xorXYH _ | .xorXYL _ | .orXYH _ | .orXYL _ | .cpXYH _
  | .cpXYL _ | .popXY _ | .exMemSPXY _ | .pushXY _ | .jpXY _ | .ldSPXY _ => .xD2
  | .ldXYNn _ _ | .ldMemNnXY _ _ | .ldXYMemNn _ _ => .xD4nn
  | .ldXYHN _ _ | .ldXYLN _ _ => .xD3n
  | .incMemXYd _ _ | .decMemXYd _ _ | .ldRMemXYd _ _ _ | .ldMemXYdR _ _ _ | .addAMemXYd _ _ | .adcAMemXYd _ _
  | .subMemXYd _ _ | .sbcAMemXYd _ _ | .andMemXYd _ _ | .xorMemXYd _ _ | .orMemXYd _ _ | .cpMemXYd _ _ => .xD3d
  | .ldMemXYdN _ _ _ => .xD4dn
  | .rlcMemXYd _ _ | .rlcMemXYdR _ _ _ | .rrcMemXYd _ _ | .rrcMemXYdR _ _ _ | .rlMemXYd _ _ | .rlMemXYdR _ _ _
  | .rrMemXYd _ _ | .rrMemXYdR _ _ _ | .slaMemXYd _ _ | .slaMemXYdR _ _ _ | .sraMemXYd _ _ | .sraMemXYdR _ _ _
  | .sllMemXYd _ _ | .sllMemXYdR _ _ _ | .srlMemXYd _ _ | .srlMemXYdR _ _ _ | .bitMemXYd _ _ _ _ | .resMemXYd _ _ _
  | .resMemXYdR _ _ _ _ | .setMemXYd _ _ _ | .setMemXYdR _ _ _ _ => .xDCB4

/-- The length of an instruction in bytes (30_encoding.md R100). -/
def Instr.length (i : Instr) : Nat := i.format.length

/-- How many bytes must be seen to know the instruction: its own, and one more for an ignored prefix (30_encoding.md R111). -/
def Instr.bytesSeen (i : Instr) : Nat :=
  match i.format with
  | .xP1 => 2
  | f => f.length

/-- Why a byte list has no instruction: it ends before the instruction does. No complete sequence of bytes is rejected
(30_encoding.md R114). -/
inductive DecodeError where
  /-- There is no byte. -/
  | noBytes
  /-- The first bytes begin an instruction that needs more bytes than there are. -/
  | truncated
  deriving DecidableEq, Repr

/-- The instruction that a list of bytes begins with, in fetch order (30_encoding.md R113). -/
def decode (bs : List Byte) : Except DecodeError Instr :=
  match bs with
  | [] => .error .noBytes
  | b0 :: rest =>
    let i := decodeBytes b0 (rest.getD 0 0) (rest.getD 1 0) (rest.getD 2 0)
    if i.bytesSeen ≤ bs.length then .ok i else .error .truncated

/-- The index of a register in r[ ] (30_encoding.md R104). -/
def Reg8.code : Reg8 → BitVec 3
  | .b => 0
  | .c => 1
  | .d => 2
  | .e => 3
  | .h => 4
  | .l => 5
  | .a => 7

/-- The index of a register in r[ ] after an index prefix (30_encoding.md R110). -/
def XYReg8.code : XYReg8 → BitVec 3
  | .b => 0
  | .c => 1
  | .d => 2
  | .e => 3
  | .xyh => 4
  | .xyl => 5
  | .a => 7

/-- The index of a pair in rp[ ] (30_encoding.md R104). -/
def RegPair.code : RegPair → BitVec 2
  | .bc => 0
  | .de => 1
  | .hl => 2
  | .sp => 3

/-- The index of a pair in rp2[ ] (30_encoding.md R104). -/
def StackPair.code : StackPair → BitVec 2
  | .bc => 0
  | .de => 1
  | .hl => 2
  | .af => 3

/-- The index of a pair in rp[ ] after an index prefix (30_encoding.md R110). -/
def XYPair.code : XYPair → BitVec 2
  | .bc => 0
  | .de => 1
  | .xy => 2
  | .sp => 3

/-- The index of a condition in cc[ ] (30_encoding.md R104). -/
def Cond.code : Cond → BitVec 3
  | .nz => 0
  | .z => 1
  | .nc => 2
  | .c => 3
  | .po => 4
  | .pe => 5
  | .p => 6
  | .m => 7

/-- The prefix byte of an index register (30_encoding.md R109). -/
def IndexReg.prefixByte : IndexReg → Byte
  | .ix => 0xDD
  | .iy => 0xFD

/-- The bytes of an instruction in fetch order, each opcode byte by its fields (30_encoding.md R100 to R112). A word operand
has its low byte first (20_memory.md R70). -/
def encode : Instr → List Byte
  | .nop => [0x00]
  | .ldRpNn rp nn => [0b00#2 ++ rp.code ++ 0b0001#4, lo nn, hi nn]
  | .ldMemBCA => [0x02]
  | .ldMemDEA => [0x12]
  | .ldAMemBC => [0x0A]
  | .ldAMemDE => [0x1A]
  | .incRp rp => [0b00#2 ++ rp.code ++ 0b0011#4]
  | .decRp rp => [0b00#2 ++ rp.code ++ 0b1011#4]
  | .incR r => [0b00#2 ++ r.code ++ 0b100#3]
  | .incMemHL => [0x34]
  | .decR r => [0b00#2 ++ r.code ++ 0b101#3]
  | .decMemHL => [0x35]
  | .ldRN r n => [0b00#2 ++ r.code ++ 0b110#3, n]
  | .ldMemHLN n => [0x36, n]
  | .rlca => [0x07]
  | .rrca => [0x0F]
  | .rla => [0x17]
  | .rra => [0x1F]
  | .daa => [0x27]
  | .cpl => [0x2F]
  | .scf => [0x37]
  | .ccf => [0x3F]
  | .exAFAF => [0x08]
  | .addHLRp rp => [0b00#2 ++ rp.code ++ 0b1001#4]
  | .djnz e => [0x10, e]
  | .jr e => [0x18, e]
  | .jrCc cc e => [0b001#3 ++ cc.code.setWidth 2 ++ 0b000#3, e]
  | .ldMemNnHL nn => [0x22, lo nn, hi nn]
  | .ldHLMemNn nn => [0x2A, lo nn, hi nn]
  | .ldMemNnA nn => [0x32, lo nn, hi nn]
  | .ldAMemNn nn => [0x3A, lo nn, hi nn]
  | .ldRR dst src => [0b01#2 ++ dst.code ++ src.code]
  | .ldRMemHL r => [0b01#2 ++ r.code ++ 0b110#3]
  | .ldMemHLR r => [0b01110#5 ++ r.code]
  | .halt => [0x76]
  | .addAR r => [0b10000#5 ++ r.code]
  | .addAMemHL => [0x86]
  | .addAN n => [0xC6, n]
  | .adcAR r => [0b10001#5 ++ r.code]
  | .adcAMemHL => [0x8E]
  | .adcAN n => [0xCE, n]
  | .subR r => [0b10010#5 ++ r.code]
  | .subMemHL => [0x96]
  | .subN n => [0xD6, n]
  | .sbcAR r => [0b10011#5 ++ r.code]
  | .sbcAMemHL => [0x9E]
  | .sbcAN n => [0xDE, n]
  | .andR r => [0b10100#5 ++ r.code]
  | .andMemHL => [0xA6]
  | .andN n => [0xE6, n]
  | .xorR r => [0b10101#5 ++ r.code]
  | .xorMemHL => [0xAE]
  | .xorN n => [0xEE, n]
  | .orR r => [0b10110#5 ++ r.code]
  | .orMemHL => [0xB6]
  | .orN n => [0xF6, n]
  | .cpR r => [0b10111#5 ++ r.code]
  | .cpMemHL => [0xBE]
  | .cpN n => [0xFE, n]
  | .retCc cc => [0b11#2 ++ cc.code ++ 0b000#3]
  | .popRp2 rp => [0b11#2 ++ rp.code ++ 0b0001#4]
  | .jpCc cc nn => [0b11#2 ++ cc.code ++ 0b010#3, lo nn, hi nn]
  | .jp nn => [0xC3, lo nn, hi nn]
  | .callCc cc nn => [0b11#2 ++ cc.code ++ 0b100#3, lo nn, hi nn]
  | .pushRp2 rp => [0b11#2 ++ rp.code ++ 0b0101#4]
  | .rst y => [0b11#2 ++ y ++ 0b111#3]
  | .ret => [0xC9]
  | .call nn => [0xCD, lo nn, hi nn]
  | .outNA n => [0xD3, n]
  | .exx => [0xD9]
  | .inAN n => [0xDB, n]
  | .exMemSPHL => [0xE3]
  | .jpHL => [0xE9]
  | .exDEHL => [0xEB]
  | .di => [0xF3]
  | .ldSPHL => [0xF9]
  | .ei => [0xFB]
  | .rlcR r => [0xCB, 0b00000#5 ++ r.code]
  | .rlcMemHL => [0xCB, 0x06]
  | .rrcR r => [0xCB, 0b00001#5 ++ r.code]
  | .rrcMemHL => [0xCB, 0x0E]
  | .rlR r => [0xCB, 0b00010#5 ++ r.code]
  | .rlMemHL => [0xCB, 0x16]
  | .rrR r => [0xCB, 0b00011#5 ++ r.code]
  | .rrMemHL => [0xCB, 0x1E]
  | .slaR r => [0xCB, 0b00100#5 ++ r.code]
  | .slaMemHL => [0xCB, 0x26]
  | .sraR r => [0xCB, 0b00101#5 ++ r.code]
  | .sraMemHL => [0xCB, 0x2E]
  | .sllR r => [0xCB, 0b00110#5 ++ r.code]
  | .sllMemHL => [0xCB, 0x36]
  | .srlR r => [0xCB, 0b00111#5 ++ r.code]
  | .srlMemHL => [0xCB, 0x3E]
  | .bitR b r => [0xCB, 0b01#2 ++ b ++ r.code]
  | .bitMemHL b => [0xCB, 0b01#2 ++ b ++ 0b110#3]
  | .resR b r => [0xCB, 0b10#2 ++ b ++ r.code]
  | .resMemHL b => [0xCB, 0b10#2 ++ b ++ 0b110#3]
  | .setR b r => [0xCB, 0b11#2 ++ b ++ r.code]
  | .setMemHL b => [0xCB, 0b11#2 ++ b ++ 0b110#3]
  | .noni op => [0xED, op]
  | .inRC r => [0xED, 0b01#2 ++ r.code ++ 0b000#3]
  | .inC => [0xED, 0x70]
  | .outCR r => [0xED, 0b01#2 ++ r.code ++ 0b001#3]
  | .outC0 => [0xED, 0x71]
  | .sbcHLRp rp => [0xED, 0b01#2 ++ rp.code ++ 0b0010#4]
  | .adcHLRp rp => [0xED, 0b01#2 ++ rp.code ++ 0b1010#4]
  | .ldMemNnRp nn rp => [0xED, 0b01#2 ++ rp.code ++ 0b0011#4, lo nn, hi nn]
  | .ldRpMemNn rp nn => [0xED, 0b01#2 ++ rp.code ++ 0b1011#4, lo nn, hi nn]
  | .neg y => [0xED, 0b01#2 ++ y ++ 0b100#3]
  | .retn y => [0xED, 0b01#2 ++ y ++ 0b101#3]
  | .reti => [0xED, 0x4D]
  | .im y => [0xED, 0b01#2 ++ y ++ 0b110#3]
  | .ldIA => [0xED, 0x47]
  | .ldRA => [0xED, 0x4F]
  | .ldAI => [0xED, 0x57]
  | .ldAR => [0xED, 0x5F]
  | .rrd => [0xED, 0x67]
  | .rld => [0xED, 0x6F]
  | .ldi => [0xED, 0xA0]
  | .cpi => [0xED, 0xA1]
  | .ini => [0xED, 0xA2]
  | .outi => [0xED, 0xA3]
  | .ldd => [0xED, 0xA8]
  | .cpd => [0xED, 0xA9]
  | .ind => [0xED, 0xAA]
  | .outd => [0xED, 0xAB]
  | .ldir => [0xED, 0xB0]
  | .cpir => [0xED, 0xB1]
  | .inir => [0xED, 0xB2]
  | .otir => [0xED, 0xB3]
  | .lddr => [0xED, 0xB8]
  | .cpdr => [0xED, 0xB9]
  | .indr => [0xED, 0xBA]
  | .otdr => [0xED, 0xBB]
  | .prefixIgnored p => [p.prefixByte]
  | .addXYRp p rp => [p.prefixByte, 0b00#2 ++ rp.code ++ 0b1001#4]
  | .ldXYNn p nn => [p.prefixByte, 0x21, lo nn, hi nn]
  | .ldMemNnXY nn p => [p.prefixByte, 0x22, lo nn, hi nn]
  | .incXY p => [p.prefixByte, 0x23]
  | .incXYH p => [p.prefixByte, 0x24]
  | .decXYH p => [p.prefixByte, 0x25]
  | .ldXYHN p n => [p.prefixByte, 0x26, n]
  | .ldXYMemNn p nn => [p.prefixByte, 0x2A, lo nn, hi nn]
  | .decXY p => [p.prefixByte, 0x2B]
  | .incXYL p => [p.prefixByte, 0x2C]
  | .decXYL p => [p.prefixByte, 0x2D]
  | .ldXYLN p n => [p.prefixByte, 0x2E, n]
  | .incMemXYd p d => [p.prefixByte, 0x34, d]
  | .decMemXYd p d => [p.prefixByte, 0x35, d]
  | .ldMemXYdN p d n => [p.prefixByte, 0x36, d, n]
  | .ldRXYH r p => [p.prefixByte, 0b01#2 ++ r.code ++ 0b100#3]
  | .ldRXYL r p => [p.prefixByte, 0b01#2 ++ r.code ++ 0b101#3]
  | .ldXYHR p r => [p.prefixByte, 0b01100#5 ++ r.code]
  | .ldXYLR p r => [p.prefixByte, 0b01101#5 ++ r.code]
  | .ldRMemXYd r p d => [p.prefixByte, 0b01#2 ++ r.code ++ 0b110#3, d]
  | .ldMemXYdR p d r => [p.prefixByte, 0b01110#5 ++ r.code, d]
  | .addAXYH p => [p.prefixByte, 0x84]
  | .addAXYL p => [p.prefixByte, 0x85]
  | .addAMemXYd p d => [p.prefixByte, 0x86, d]
  | .adcAXYH p => [p.prefixByte, 0x8C]
  | .adcAXYL p => [p.prefixByte, 0x8D]
  | .adcAMemXYd p d => [p.prefixByte, 0x8E, d]
  | .subXYH p => [p.prefixByte, 0x94]
  | .subXYL p => [p.prefixByte, 0x95]
  | .subMemXYd p d => [p.prefixByte, 0x96, d]
  | .sbcAXYH p => [p.prefixByte, 0x9C]
  | .sbcAXYL p => [p.prefixByte, 0x9D]
  | .sbcAMemXYd p d => [p.prefixByte, 0x9E, d]
  | .andXYH p => [p.prefixByte, 0xA4]
  | .andXYL p => [p.prefixByte, 0xA5]
  | .andMemXYd p d => [p.prefixByte, 0xA6, d]
  | .xorXYH p => [p.prefixByte, 0xAC]
  | .xorXYL p => [p.prefixByte, 0xAD]
  | .xorMemXYd p d => [p.prefixByte, 0xAE, d]
  | .orXYH p => [p.prefixByte, 0xB4]
  | .orXYL p => [p.prefixByte, 0xB5]
  | .orMemXYd p d => [p.prefixByte, 0xB6, d]
  | .cpXYH p => [p.prefixByte, 0xBC]
  | .cpXYL p => [p.prefixByte, 0xBD]
  | .cpMemXYd p d => [p.prefixByte, 0xBE, d]
  | .popXY p => [p.prefixByte, 0xE1]
  | .exMemSPXY p => [p.prefixByte, 0xE3]
  | .pushXY p => [p.prefixByte, 0xE5]
  | .jpXY p => [p.prefixByte, 0xE9]
  | .ldSPXY p => [p.prefixByte, 0xF9]
  | .rlcMemXYd p d => [p.prefixByte, 0xCB, d, 0x06]
  | .rlcMemXYdR p d r => [p.prefixByte, 0xCB, d, 0b00000#5 ++ r.code]
  | .rrcMemXYd p d => [p.prefixByte, 0xCB, d, 0x0E]
  | .rrcMemXYdR p d r => [p.prefixByte, 0xCB, d, 0b00001#5 ++ r.code]
  | .rlMemXYd p d => [p.prefixByte, 0xCB, d, 0x16]
  | .rlMemXYdR p d r => [p.prefixByte, 0xCB, d, 0b00010#5 ++ r.code]
  | .rrMemXYd p d => [p.prefixByte, 0xCB, d, 0x1E]
  | .rrMemXYdR p d r => [p.prefixByte, 0xCB, d, 0b00011#5 ++ r.code]
  | .slaMemXYd p d => [p.prefixByte, 0xCB, d, 0x26]
  | .slaMemXYdR p d r => [p.prefixByte, 0xCB, d, 0b00100#5 ++ r.code]
  | .sraMemXYd p d => [p.prefixByte, 0xCB, d, 0x2E]
  | .sraMemXYdR p d r => [p.prefixByte, 0xCB, d, 0b00101#5 ++ r.code]
  | .sllMemXYd p d => [p.prefixByte, 0xCB, d, 0x36]
  | .sllMemXYdR p d r => [p.prefixByte, 0xCB, d, 0b00110#5 ++ r.code]
  | .srlMemXYd p d => [p.prefixByte, 0xCB, d, 0x3E]
  | .srlMemXYdR p d r => [p.prefixByte, 0xCB, d, 0b00111#5 ++ r.code]
  | .bitMemXYd b p d z => [p.prefixByte, 0xCB, d, 0b01#2 ++ b ++ z]
  | .resMemXYd b p d => [p.prefixByte, 0xCB, d, 0b10#2 ++ b ++ 0b110#3]
  | .resMemXYdR b p d r => [p.prefixByte, 0xCB, d, 0b10#2 ++ b ++ r.code]
  | .setMemXYd b p d => [p.prefixByte, 0xCB, d, 0b11#2 ++ b ++ 0b110#3]
  | .setMemXYdR b p d r => [p.prefixByte, 0xCB, d, 0b11#2 ++ b ++ r.code]

/-- The bytes of a number of `n` bytes, least significant first. -/
def littleBytes : Nat → Nat → List Byte
  | 0, _ => []
  | n + 1, w => BitVec.ofNat 8 w :: littleBytes n (w / 256)

/-- The instruction that bytes followed by operand bytes of zeros begin with. -/
def decodePadded (bs : List Byte) : Instr := decodeBytes (bs.getD 0 0) (bs.getD 1 0) (bs.getD 2 0) (bs.getD 3 0)

/-- An instruction has the given number of bits in the table, or that length. -/
def Instr.hasBits (nbits : Nat) (i : Instr) : Bool := i.format.tableBits == nbits || 8 * i.length == nbits

/-- The bytes, in fetch order, of the instruction whose bits are `w`. spec/opcode_table.json writes a row as one number whose
MOST significant byte is fetched first (30_encoding.md R115); that reading is taken where the instruction it gives has `nbits`
bits in the table, and else the reading with the least significant byte first (DESIGN CHOICE, log 13: it concerns the host's
question only, no instruction). -/
def tableBytes (nbits w : Nat) : List Byte :=
  let little := littleBytes ((nbits + 7) / 8) w
  let big := little.reverse
  if (decodePadded big).hasBits nbits then big
  else if (decodePadded little).hasBits nbits then little
  else big

/-- `tableBytes` with the instruction's further bytes zero, up to the longest instruction. -/
def tableWordBytes (nbits w : Nat) : List Byte := (tableBytes nbits w ++ [0, 0, 0, 0]).take 4

/-- The instruction the decoder reads from a table word (log 13). -/
def decodeTableWord (nbits w : Nat) : Option Instr := (decode (tableWordBytes nbits w)).toOption

end Sys2Proof
end

