-- ==== Sys2Proof/Config.lean ====
section
/-! DEFINITION. The configuration record of 00_scope.md R6, its default values, and the free values of the model:
constants without a body, of which nothing can be proved but what holds of every value. -/

namespace Sys2Proof

/-- The registers and video memory of VIDEO_DEV, an OPEN type (60_exceptions.md R640): any byte list
(DESIGN CHOICE, log 5: safe, every countable type is encoded in one). -/
abbrev VideoRegs := List Byte

/-- What `display_info` returns: R643 of 60_exceptions.md names its fields and gives them no type; here each is one natural number,
the border's width among them (DESIGN CHOICE, log 22). -/
structure DisplayInfo where
  width : Nat
  height : Nat
  border : Nat
  deriving DecidableEq, Repr, Inhabited

/-- A device register as the bus dispatcher reaches it (20_memory.md R64, R77): the keyboard by its row, the video
controller by the index its region fixes, the PIO by its port index. The timer has no register (60_exceptions.md R625). -/
inductive DevReg where
  | kbd (row : Nat)
  | video (reg : Nat)
  | pio (reg : Nat)
  deriving DecidableEq, Repr

/-- The device an IO-kind region names (20_memory.md R62). A video region fixes its register index (R77). -/
inductive Device where
  | kbd
  | video (reg : Nat)
  | pio
  deriving DecidableEq, Repr

/-- The backing of a region, and with it its kind (20_memory.md R62). A RAM backing is named by the key of its
first byte in the RAM store; a ROM backing by its offset into ROM_IMAGE. -/
inductive Backing where
  | ram (base : Nat)
  | rom (offset : Nat)
  | io (device : Device)
  | unmapped
  deriving DecidableEq, Repr

/-- A region of an address space (20_memory.md R62). -/
structure Region where
  start : Nat
  length : Nat
  backing : Backing
  deriving DecidableEq, Repr

/-- A bank descriptor (20_memory.md R68). -/
structure Bank where
  start : Nat
  length : Nat
  backings : List Backing
  select : DevReg
  deriving DecidableEq, Repr

/-- ROM_IMAGE, an OPEN parameter (20_memory.md R65): its size, and the bytes of it that are given, by offset in rising
order. An offset not given reads as the free value `Config.romByte` (log 3). -/
structure RomImage where
  size : Nat
  given : List Host.Cell
  deriving DecidableEq, Repr

/-- An entry of KEYMAP: a logical key code and its place in the matrix (60_exceptions.md R632). -/
structure KeyPos where
  code : Nat
  row : Nat
  col : Nat
  deriving DecidableEq, Repr

/-- A behaviour of VIDEO_DEV: one of its functions, a register's read or write by the register's index (60_exceptions.md R640). -/
inductive VideoCall where
  | read (reg : Nat)
  | write (reg : Nat)
  | lineDone
  | geometry
  deriving DecidableEq, Repr

/-- BLOCK_REPEAT_FLAGS (00_scope.md R6): `classic` is the only value the spec defines (92_eei_decisions.md D29). -/
inductive BlockRepeatFlags where
  | classic
  deriving DecidableEq, Repr

/-- The configuration record (00_scope.md R6). VIDEO_DEV, DISPLAY_INFO, SNAPSHOT_VERSION and SNAPSHOT_SIZE are the free
constants below; `videoUndefined` lists the behaviours that the parameter VIDEO_DEV leaves undefined (60_exceptions.md R607,
log 24). -/
structure Config where
  memMap : List Region
  ioMap : List Region
  rom : RomImage
  banks : List Bank
  fillByte : Byte
  ioDecodeMask : Word
  cpuFreqHz : Nat
  waitStates : Nat
  intVector : Byte
  linesPerFrame : Nat
  cyclesPerLine : Nat
  kbdRows : Nat
  kbdCols : Nat
  keymap : List KeyPos
  kbdActiveLow : Bool
  pioOutPorts : List Nat
  pioInPorts : List Nat
  xyExact : Bool
  blockRepeatFlags : BlockRepeatFlags
  videoUndefined : List VideoCall
  deriving DecidableEq, Repr

/-- TIMER_PERIOD = LINES_PER_FRAME × CYCLES_PER_LINE (10_state.md R42). -/
def Config.timerPeriod (c : Config) : Nat := c.linesPerFrame * c.cyclesPerLine

/-- The byte of ROM_IMAGE at an offset that the configuration does not give (log 3). -/
opaque Config.romByte : Nat → Byte

/-- The free bits that X and Y take when XY_EXACT is false, by the draw's number (00_scope.md R13, log 7). -/
opaque Config.freeBit : Nat → Bool

/-- The PIO input lines of register `reg` at the draw of that number (60_exceptions.md R646, log 6). -/
opaque Config.pioLines (reg draw : Nat) : Byte

/-- VIDEO_DEV.read (60_exceptions.md R640, log 5). -/
opaque Config.videoRead (reg : Nat) (regs : VideoRegs) : Byte × VideoRegs

/-- VIDEO_DEV.write (60_exceptions.md R640, log 5). -/
opaque Config.videoWrite (reg : Nat) (v : Byte) (regs : VideoRegs) : VideoRegs

/-- VIDEO_DEV.line_done (60_exceptions.md R640, log 5). -/
opaque Config.videoLineDone (line : Nat) (regs : VideoRegs) : VideoRegs

/-- VIDEO_DEV.geometry (60_exceptions.md R640, R643, log 5). -/
opaque Config.videoGeometry (regs : VideoRegs) : DisplayInfo

/-- VIDEO_DEV.reset, coded as the empty list (60_exceptions.md R640; DESIGN CHOICE, log 5). -/
def Config.videoReset : VideoRegs := []

/-- The index that writing `v` to the select register of bank `k` asks for, before it is reduced to the number of the
bank's backings (20_memory.md R68 does not give it, log 9). -/
opaque Config.bankIndex (k : Nat) (v : Byte) : Nat

/-- SNAPSHOT_VERSION (00_scope.md R6, OPEN, log 10). -/
opaque Config.snapshotVersion : Nat

/-- SNAPSHOT_SIZE (00_scope.md R6, OPEN, log 10). -/
opaque Config.snapshotSize : Nat

/-- The default MEM_MAP (20_memory.md R65). -/
def Config.defaultMemMap : List Region :=
  [⟨0x0000, 0x4000, .rom 0⟩, ⟨0x4000, 0x4000, .ram 0x4000⟩, ⟨0x8000, 0x8000, .unmapped⟩]

/-- The default IO_MAP (20_memory.md R77). -/
def Config.defaultIoMap : List Region :=
  [⟨0x00, 0x80, .unmapped⟩, ⟨0x80, 8, .io .kbd⟩, ⟨0x88, 7, .unmapped⟩, ⟨0x8F, 1, .io (.video 0)⟩,
   ⟨0x90, 0x1F, .unmapped⟩, ⟨0xAF, 1, .io .pio⟩, ⟨0xB0, 0x1F, .unmapped⟩, ⟨0xCF, 1, .io (.video 1)⟩,
   ⟨0xD0, 0x30, .unmapped⟩]

/-- The default configuration (00_scope.md R6). KEYMAP is OPEN: no key has a place (DESIGN CHOICE, log 4). VIDEO_DEV is OPEN: it
leaves no behaviour undefined (DESIGN CHOICE, log 24). -/
def Config.default : Config where
  memMap := Config.defaultMemMap
  ioMap := Config.defaultIoMap
  rom := ⟨0x4000, []⟩
  banks := []
  fillByte := 0xFF
  ioDecodeMask := 0x00FF
  cpuFreqHz := 4000000
  waitStates := 0
  intVector := 0xFF
  linesPerFrame := 312
  cyclesPerLine := 256
  kbdRows := 8
  kbdCols := 8
  keymap := []
  kbdActiveLow := true
  pioOutPorts := [0xAF]
  pioInPorts := [0xAF]
  xyExact := true
  blockRepeatFlags := .classic
  videoUndefined := []

end Sys2Proof
end

