-- ==== Sys2Proof/Machine/State.lean ====
section
/-! DEFINITION. The machine state: the record of 10_state.md R20 with its configuration (00_scope.md R6), the faults and
refusals, and the state after reset (70_reset_and_hazards.md R700). -/

namespace Sys2Proof.Machine

/-- The bytes of the eight 8-bit registers of one set (10_state.md R21, R22). -/
structure RegSet where
  a : Byte
  f : Byte
  b : Byte
  c : Byte
  d : Byte
  e : Byte
  h : Byte
  l : Byte
  deriving DecidableEq, Repr

/-- The interrupt mode IM: 0, 1 or 2; the value 3 cannot be written (10_state.md R32). -/
inductive IntMode where
  | im0 | im1 | im2
  deriving DecidableEq, Repr

/-- The CPU (10_state.md R21 to R37). -/
structure Cpu where
  /-- A, F, B, C, D, E, H, L (R21). -/
  main : RegSet
  /-- The shadow set A' to L' (R22). -/
  shadow : RegSet
  ix : Word
  iy : Word
  sp : Word
  pc : Word
  /-- WZ, also called MEMPTR (R35). -/
  wz : Word
  /-- The interrupt page register (R28). -/
  i : Byte
  /-- The memory refresh register (R29). -/
  r : Byte
  iff1 : Bool
  iff2 : Bool
  im : IntMode
  halted : Bool
  eiInhibit : Bool
  prefixInhibit : Bool
  intPending : Bool
  intVec : Byte
  nmiPending : Bool
  deriving DecidableEq, Repr

/-- The RAM store: (key, byte) cells, keys strictly rising, none equal to what an unlisted key reads as
(`Memory.wf` of Machine/Memory.lean). -/
abbrev Memory := List Host.Cell

/-- MemState (10_state.md R39): the RAM contents, and for each bank descriptor the index of its selected backing. -/
structure MemState where
  ram : Memory
  bankSel : List Nat
  deriving DecidableEq, Repr

/-- The keyboard (10_state.md R41): one byte per row, bit `col` set while the key at (row, col) is held down. -/
structure Keyboard where
  matrix : List Byte
  selRow : Nat
  deriving DecidableEq, Repr

/-- The periodic timer (10_state.md R42). -/
structure Timer where
  count : Nat
  deriving DecidableEq, Repr

/-- The video controller (10_state.md R43). `undef` is the model's own (log 24): the step has reached a behaviour that VIDEO_DEV leaves
undefined, for which the machine step is refused. -/
structure Video where
  line : Nat
  dot : Nat
  frameCount : Nat
  regs : VideoRegs
  undef : Bool
  deriving DecidableEq, Repr

/-- The parallel I/O chip (10_state.md R44): one latch byte per port of PIO_OUT_PORTS. -/
structure Pio where
  outLatch : List Byte
  deriving DecidableEq, Repr

/-- IoDevices (10_state.md R40). -/
structure IoDevices where
  kbd : Keyboard
  timer : Timer
  video : Video
  pio : Pio
  deriving DecidableEq, Repr

/-- FrameClock (10_state.md R45). -/
structure FrameClock where
  elapsedUs : Nat
  executed : Nat
  deriving DecidableEq, Repr

/-- Lifecycle (10_state.md R46). -/
inductive Lifecycle where
  | uninitialized | running | discarded
  deriving DecidableEq, Repr

/-- The whole machine (10_state.md R20). `cfg` is the configuration of 00_scope.md R6, which init reads and nothing changes
(60_exceptions.md R650). `draws` and `stepCycles` are the model's own (logs 8, 16): the number of free values taken so far, and
the cycle count that the last `cpu_step` returned. -/
structure State where
  cfg : Config
  cpu : Cpu
  mem : MemState
  io : IoDevices
  clock : FrameClock
  life : Lifecycle
  draws : Nat
  stepCycles : Nat
  deriving DecidableEq, Repr

/-- What init's check of the configuration finds wrong (20_memory.md R63, 60_exceptions.md R650). -/
inductive ConfigError where
  /-- MEM_MAP is no ordered, gapless cover of the 2^16 addresses. -/
  | memMap
  /-- IO_MAP is no ordered, gapless cover of the ports under IO_DECODE_MASK, or holds a RAM or ROM region. -/
  | ioMap
  /-- The ROM regions do not fit in ROM_IMAGE, or its size is not their total length. -/
  | romSize
  /-- Two RAM backings share a byte. -/
  | ramOverlap
  /-- A bank descriptor is out of range. -/
  | banks
  /-- Another parameter is out of range (WAIT_STATES other than 0 included). -/
  | parameter
  deriving DecidableEq, Repr

/-- The machine's faults. No instruction and no step raises one (00_scope.md R10, 60_exceptions.md R606). -/
inductive Fault where
  /-- `init` refuses the configuration before any step runs (20_memory.md R63, 60_exceptions.md R650). Raised by `init` only.
  Safe: the spec creates no machine here. -/
  | configError (reason : ConfigError)
  deriving DecidableEq, Repr

/-- What the model gives no meaning (60_exceptions.md R607). Every constructor is safe: a claim about a run that reaches it is
unprovable. -/
inductive Refusal where
  /-- An instruction without a meaning; no arm of `exec` answers it. Safe. -/
  | notModelled (mnemonic : String)
  /-- WAIT_STATES is not 0 (R607, 92_eei_decisions.md D2). Raised by `step`. Safe. -/
  | waitStates
  /-- A mode-0 acknowledge whose vector byte is no RST opcode (R607, R611). Raised by the maskable acceptance. Safe. -/
  | modeZeroVector (vector : Byte)
  /-- A call in a lifecycle state that does not admit it (R654). Raised by `step` and the host calls. Safe. -/
  | callNotAdmitted
  /-- A snapshot record with a matching header that no save of this configuration produced (R607, R657). Raised by `loadSnapshot`.
  Safe. -/
  | snapshotNotSaved
  /-- A behaviour that the parameter VIDEO_DEV leaves undefined (R607, R640). Raised by `step` and `displayInfo`. Safe. -/
  | videoUndefined
  deriving DecidableEq, Repr

/-- What reset leaves open (70_reset_and_hazards.md R700): the register draws and the RAM bytes. -/
structure ResetDraws where
  main : RegSet
  shadow : RegSet
  ix : Word
  iy : Word
  sp : Word
  wz : Word
  ram : Memory
  deriving DecidableEq, Repr

/-- A register set of zeros. -/
def RegSet.zero : RegSet := ⟨0, 0, 0, 0, 0, 0, 0, 0⟩

/-- The draws this model's reset state takes: every register zero and no RAM byte listed (DESIGN CHOICE, unsafe, logs 1, 2). -/
def ResetDraws.zero : ResetDraws := ⟨.zero, .zero, 0, 0, 0, 0, []⟩

/-- The CPU after reset (10_state.md R47, 70_reset_and_hazards.md R700). -/
def Cpu.reset (dr : ResetDraws) : Cpu where
  main := dr.main
  shadow := dr.shadow
  ix := dr.ix
  iy := dr.iy
  sp := dr.sp
  pc := 0x0000
  wz := dr.wz
  i := 0x00
  r := 0x00
  iff1 := false
  iff2 := false
  im := .im0
  halted := false
  eiInhibit := false
  prefixInhibit := false
  intPending := false
  intVec := 0xFF
  nmiPending := false

/-- The devices after reset (10_state.md R41 to R44; 60_exceptions.md R627, R631, R642, R647). -/
def IoDevices.reset (cfg : Config) : IoDevices where
  kbd := ⟨List.replicate cfg.kbdRows 0, 0⟩
  timer := ⟨0⟩
  video := ⟨0, 0, 0, Config.videoReset, false⟩
  pio := ⟨List.replicate cfg.pioOutPorts.length 0x00⟩

/-- The machine right after reset with a configuration and reset's draws (70_reset_and_hazards.md R700). -/
def State.initial (cfg : Config) (dr : ResetDraws) : State where
  cfg := cfg
  cpu := Cpu.reset dr
  mem := ⟨dr.ram, List.replicate cfg.banks.length 0⟩
  io := IoDevices.reset cfg
  clock := ⟨0, 0⟩
  life := .running
  draws := 0
  stepCycles := 0

/-- The machine right after reset, in the default configuration (70_reset_and_hazards.md R700; logs 1 to 5, 8, 16). -/
def State.reset : State := State.initial Config.default ResetDraws.zero

end Sys2Proof.Machine
end

