-- ==== Sys2Proof/Machine/Memory.lean ====
section
/-! DEFINITION. The RAM store and ROM_IMAGE: reading and writing one byte, and the store's canonical form. -/

namespace Sys2Proof.Machine

/-- What a RAM key that no cell lists reads as: the spec leaves RAM after reset open (70_reset_and_hazards.md R700), the model
takes 0x00 (DESIGN CHOICE, unsafe, log 2). -/
def unlistedByte (_key : Nat) : Byte := 0x00

/-- The byte of a RAM key (20_memory.md R66). -/
def Memory.read : Memory → Nat → Byte
  | [], key => unlistedByte key
  | cell :: rest, key => if cell.1 = key then cell.2 else Memory.read rest key

/-- Puts a cell before a store whose keys are all above it, or nothing where the byte is what the key reads as unlisted. -/
def Memory.cons (key : Nat) (v : Byte) (m : Memory) : Memory :=
  if v = unlistedByte key then m else (key, v) :: m

/-- Writes the byte of a RAM key (20_memory.md R67), keeping the canonical form. -/
def Memory.write : Memory → Nat → Byte → Memory
  | [], key, v => Memory.cons key v []
  | cell :: rest, key, v =>
    if key < cell.1 then Memory.cons key v (cell :: rest)
    else if key = cell.1 then Memory.cons key v rest
    else cell :: Memory.write rest key v

/-- Every key of a store is above `key`. -/
def Memory.above (key : Nat) : Memory → Bool
  | [] => true
  | cell :: rest => decide (key < cell.1) && Memory.above key rest

/-- The canonical form of a RAM store: keys strictly rising, no cell equal to what its key reads as unlisted. Stores that read
alike are equal lists. -/
def Memory.wf : Memory → Bool
  | [] => true
  | cell :: rest => decide (cell.2 ≠ unlistedByte cell.1) && Memory.above cell.1 rest && Memory.wf rest

/-- The byte of a list of given ROM bytes at an offset; the free value where none is given (log 3). -/
def givenByte : List Host.Cell → Nat → Byte
  | [], off => Config.romByte off
  | cell :: rest, off => if cell.1 = off then cell.2 else givenByte rest off

/-- ROM_IMAGE at an offset (20_memory.md R66). -/
def romRead (rom : RomImage) (off : Nat) : Byte := givenByte rom.given off

/-- The given ROM bytes with the byte at an offset given as `v`, in rising order. -/
def giveByte : List Host.Cell → Nat → Byte → List Host.Cell
  | [], off, v => [(off, v)]
  | cell :: rest, off, v =>
    if off < cell.1 then (off, v) :: cell :: rest
    else if off = cell.1 then (off, v) :: rest
    else cell :: giveByte rest off v

/-- ROM_IMAGE with one more byte given: a program loaded from outside the machine (log 3). -/
def romGive (rom : RomImage) (off : Nat) (v : Byte) : RomImage := { rom with given := giveByte rom.given off v }

end Sys2Proof.Machine
end

