-- ==== Sys2Proof/Machine/Registers.lean ====
section
/-! DEFINITION. Reading and writing the registers, the one place where a register operand meets the state
(10_state.md R21 to R37, 30_encoding.md R104, R110). -/

namespace Sys2Proof.Machine

/-- A register of a set by its name in r[ ] (30_encoding.md R104). -/
def RegSet.get (m : RegSet) : Reg8 → Byte
  | .b => m.b
  | .c => m.c
  | .d => m.d
  | .e => m.e
  | .h => m.h
  | .l => m.l
  | .a => m.a

/-- Writes one register of a set; the other byte of its pair is unchanged (10_state.md R21). -/
def RegSet.put (m : RegSet) (r : Reg8) (v : Byte) : RegSet :=
  match r with
  | .b => { m with b := v }
  | .c => { m with c := v }
  | .d => { m with d := v }
  | .e => { m with e := v }
  | .h => { m with h := v }
  | .l => { m with l := v }
  | .a => { m with a := v }

/-- BC = B:C (10_state.md R21). -/
def RegSet.bc (m : RegSet) : Word := joinBytes m.b m.c

/-- DE = D:E (10_state.md R21). -/
def RegSet.de (m : RegSet) : Word := joinBytes m.d m.e

/-- HL = H:L (10_state.md R21). -/
def RegSet.hl (m : RegSet) : Word := joinBytes m.h m.l

/-- AF = A:F (10_state.md R21). -/
def RegSet.af (m : RegSet) : Word := joinBytes m.a m.f

/-- Writes B and C (10_state.md R21). -/
def RegSet.putBC (m : RegSet) (w : Word) : RegSet := { m with b := hi w, c := lo w }

/-- Writes D and E (10_state.md R21). -/
def RegSet.putDE (m : RegSet) (w : Word) : RegSet := { m with d := hi w, e := lo w }

/-- Writes H and L (10_state.md R21). -/
def RegSet.putHL (m : RegSet) (w : Word) : RegSet := { m with h := hi w, l := lo w }

/-- Writes A and F (10_state.md R21). -/
def RegSet.putAF (m : RegSet) (w : Word) : RegSet := { m with a := hi w, f := lo w }

/-- Replaces the main register set. -/
def State.setMain (s : State) (m : RegSet) : State := { s with cpu := { s.cpu with main := m } }

/-- Replaces the shadow register set. -/
def State.setShadow (s : State) (m : RegSet) : State := { s with cpu := { s.cpu with shadow := m } }

/-- Writes SP. -/
def State.setSp (s : State) (w : Word) : State := { s with cpu := { s.cpu with sp := w } }

/-- Writes PC. -/
def State.setPc (s : State) (w : Word) : State := { s with cpu := { s.cpu with pc := w } }

/-- Writes WZ (10_state.md R35). -/
def State.setWz (s : State) (w : Word) : State := { s with cpu := { s.cpu with wz := w } }

/-- Writes R (10_state.md R29). -/
def State.setR (s : State) (v : Byte) : State := { s with cpu := { s.cpu with r := v } }

/-- Writes IFF1 and IFF2 (10_state.md R30). -/
def State.setIff (s : State) (iff1 iff2 : Bool) : State := { s with cpu := { s.cpu with iff1 := iff1, iff2 := iff2 } }

/-- Writes both inhibit bits (10_state.md R34). -/
def State.setInhibits (s : State) (ei pre : Bool) : State :=
  { s with cpu := { s.cpu with eiInhibit := ei, prefixInhibit := pre } }

/-- Records the cycle count that the step returns (00_scope.md R11, 60_exceptions.md R600). -/
def State.took (s : State) (cycles : Nat) : State := { s with stepCycles := cycles }

/-- The accumulator A. -/
def State.a (s : State) : Byte := s.cpu.main.a

/-- The flag register F. -/
def State.f (s : State) : Byte := s.cpu.main.f

/-- BC. -/
def State.bc (s : State) : Word := s.cpu.main.bc

/-- DE. -/
def State.de (s : State) : Word := s.cpu.main.de

/-- HL. -/
def State.hl (s : State) : Word := s.cpu.main.hl

/-- Writes A. -/
def State.setA (s : State) (v : Byte) : State := s.setMain { s.cpu.main with a := v }

/-- Writes all eight bits of F. -/
def State.setF (s : State) (v : Byte) : State := s.setMain { s.cpu.main with f := v }

/-- An 8-bit register operand (30_encoding.md R103, R104). -/
def State.reg8 (s : State) (r : Reg8) : Byte := s.cpu.main.get r

/-- Writes an 8-bit register operand. -/
def State.setReg8 (s : State) (r : Reg8) (v : Byte) : State := s.setMain (s.cpu.main.put r v)

/-- A register pair operand of rp[ ] (30_encoding.md R104). -/
def State.pair (s : State) : RegPair → Word
  | .bc => s.cpu.main.bc
  | .de => s.cpu.main.de
  | .hl => s.cpu.main.hl
  | .sp => s.cpu.sp

/-- Writes a register pair operand of rp[ ]. -/
def State.setPair (s : State) (rp : RegPair) (w : Word) : State :=
  match rp with
  | .bc => s.setMain (s.cpu.main.putBC w)
  | .de => s.setMain (s.cpu.main.putDE w)
  | .hl => s.setMain (s.cpu.main.putHL w)
  | .sp => s.setSp w

/-- A register pair operand of rp2[ ] (30_encoding.md R104). -/
def State.stackPair (s : State) : StackPair → Word
  | .bc => s.cpu.main.bc
  | .de => s.cpu.main.de
  | .hl => s.cpu.main.hl
  | .af => s.cpu.main.af

/-- Writes HL. -/
def State.setHL (s : State) (w : Word) : State := s.setMain (s.cpu.main.putHL w)

/-- XY: the index register an index prefix selects (30_encoding.md R109). -/
def State.index (s : State) : IndexReg → Word
  | .ix => s.cpu.ix
  | .iy => s.cpu.iy

/-- Writes XY. -/
def State.setIndex (s : State) (p : IndexReg) (w : Word) : State :=
  match p with
  | .ix => { s with cpu := { s.cpu with ix := w } }
  | .iy => { s with cpu := { s.cpu with iy := w } }

/-- Writes XYH, leaving XYL (10_state.md R23). -/
def State.setIndexHigh (s : State) (p : IndexReg) (v : Byte) : State := s.setIndex p (joinBytes v (lo (s.index p)))

/-- Writes XYL, leaving XYH (10_state.md R23). -/
def State.setIndexLow (s : State) (p : IndexReg) (v : Byte) : State := s.setIndex p (joinBytes (hi (s.index p)) v)

/-- A register pair operand after an index prefix (30_encoding.md R110, 44_alu16.md R351). -/
def State.xyPair (s : State) (p : IndexReg) : XYPair → Word
  | .bc => s.cpu.main.bc
  | .de => s.cpu.main.de
  | .xy => s.index p
  | .sp => s.cpu.sp

/-- Writes an 8-bit register operand after an index prefix (30_encoding.md R110). -/
def State.setXYReg8 (s : State) (p : IndexReg) (r : XYReg8) (v : Byte) : State :=
  match r with
  | .b => s.setReg8 .b v
  | .c => s.setReg8 .c v
  | .d => s.setReg8 .d v
  | .e => s.setReg8 .e v
  | .xyh => s.setIndexHigh p v
  | .xyl => s.setIndexLow p v
  | .a => s.setReg8 .a v

/-- The refresh update of an M1 cycle: bit 7 kept, the low 7 bits incremented modulo 128 (10_state.md R31). -/
def refreshed (r : Byte) : Byte := (r &&& 0x80) ||| ((r + 1) &&& 0x7F)

/-- `n` refresh updates of R (10_state.md R31). -/
def State.refresh (s : State) : Nat → State
  | 0 => s
  | n + 1 => State.refresh (s.setR (refreshed s.cpu.r)) n

end Sys2Proof.Machine
end

