-- ==== Sys2Proof/Machine/Devices.lean ====
section
/-! DEFINITION. The four devices: their register reads and writes, which the CPU's bus accesses call, and their ticks, which
follow every CPU step (60_exceptions.md R620 to R647). -/

namespace Sys2Proof.Machine

/-- `request_interrupt(vector)`: one pending request, the newer vector kept (60_exceptions.md R617). -/
def State.requestInterrupt (s : State) (vector : Byte) : State :=
  { s with cpu := { s.cpu with intPending := true, intVec := vector } }

/-- `request_nmi()` (60_exceptions.md R616). No device or host call of the block calls it (92_eei_decisions.md D12). -/
def State.requestNmi (s : State) : State := { s with cpu := { s.cpu with nmiPending := true } }

/-- Replaces the keyboard. -/
def State.setKbd (s : State) (k : Keyboard) : State := { s with io := { s.io with kbd := k } }

/-- Replaces the video controller. -/
def State.setVideo (s : State) (v : Video) : State := { s with io := { s.io with video := v } }

/-- Replaces the timer. -/
def State.setTimer (s : State) (t : Timer) : State := { s with io := { s.io with timer := t } }

/-- Replaces the PIO. -/
def State.setPio (s : State) (p : Pio) : State := { s with io := { s.io with pio := p } }

/-- The column byte of a keyboard row: 0 for a key held down, 1 otherwise (60_exceptions.md R630). A column past KBD_COLS and a
row past KBD_ROWS read as not held (log 18). -/
def Keyboard.columns (k : Keyboard) (row : Nat) : Byte := ~~~(k.matrix.getD row 0)

/-- `kbd.read(reg)` (60_exceptions.md R630). -/
def State.kbdRead (s : State) (row : Nat) : Byte × State :=
  (s.io.kbd.columns row, s.setKbd { s.io.kbd with selRow := row })

/-- The video controller once a behaviour of VIDEO_DEV is called: `undef` is set where the parameter leaves it undefined
(60_exceptions.md R607, log 24). -/
def Video.calling (v : Video) (cfg : Config) (call : VideoCall) : Video :=
  { v with undef := v.undef || cfg.videoUndefined.contains call }

/-- `video.read(reg)` (60_exceptions.md R641). -/
def State.videoRead (s : State) (reg : Nat) : Byte × State :=
  let out := Config.videoRead reg s.io.video.regs
  (out.1, s.setVideo { s.io.video.calling s.cfg (.read reg) with regs := out.2 })

/-- `pio.read(reg)`: the input lines, a free value at each read (60_exceptions.md R646, log 6). -/
def State.pioRead (s : State) (reg : Nat) : Byte × State :=
  (Config.pioLines reg s.draws, { s with draws := s.draws + 1 })

/-- `dev.read(reg)` (60_exceptions.md R620). -/
def State.devRead (s : State) : DevReg → Byte × State
  | .kbd row => s.kbdRead row
  | .video reg => s.videoRead reg
  | .pio reg => s.pioRead reg

/-- The bank selections after a write of `v` to a device register: each bank whose select register it is takes the index the
written value asks for, reduced to its number of backings (20_memory.md R68, log 9). `k` numbers the first bank. -/
def selectBanks (reg : DevReg) (v : Byte) : Nat → List Bank → List Nat → List Nat
  | k, bank :: banks, j :: js =>
    (if bank.select = reg then Config.bankIndex k v % bank.backings.length else j) :: selectBanks reg v (k + 1) banks js
  | _, _, js => js

/-- The device's own effect of `dev.write(reg, v)` (60_exceptions.md R631, R641, R645). -/
def State.devEffect (s : State) (reg : DevReg) (v : Byte) : State :=
  match reg with
  | .kbd _ => s
  | .video k => s.setVideo { s.io.video.calling s.cfg (.write k) with regs := Config.videoWrite k v s.io.video.regs }
  | .pio k => s.setPio ⟨s.io.pio.outLatch.set k v⟩

/-- `dev.write(reg, v)`: the device's effect, and the bank selection where the register is a select register
(60_exceptions.md R620, 20_memory.md R68). -/
def State.devWrite (s : State) (reg : DevReg) (v : Byte) : State :=
  let t := s.devEffect reg v
  { t with mem := { t.mem with bankSel := selectBanks reg v 0 t.cfg.banks t.mem.bankSel } }

/-- `timer.tick(c)`: a request each time the count passes TIMER_PERIOD; repeated requests are one (60_exceptions.md R626,
R617). -/
def State.tickTimer (s : State) (c : Nat) : State :=
  let count := s.io.timer.count + c
  let t := s.setTimer ⟨count % s.cfg.timerPeriod⟩
  if count / s.cfg.timerPeriod = 0 then t else t.requestInterrupt s.cfg.intVector

/-- One scanline of the beam (60_exceptions.md R642). -/
def Video.nextLine (v : Video) (linesPerFrame : Nat) : Video :=
  let regs := Config.videoLineDone v.line v.regs
  if v.line + 1 = linesPerFrame then { v with line := 0, frameCount := v.frameCount + 1, regs := regs }
  else { v with line := v.line + 1, regs := regs }

/-- `n` scanlines of the beam. -/
def Video.nextLines (linesPerFrame : Nat) : Nat → Video → Video
  | 0, v => v
  | n + 1, v => Video.nextLines linesPerFrame n (v.nextLine linesPerFrame)

/-- `video.tick(c)` (60_exceptions.md R642). -/
def State.tickVideo (s : State) (c : Nat) : State :=
  let dot := s.io.video.dot + c
  let lines := dot / s.cfg.cyclesPerLine
  let start := if lines = 0 then s.io.video else s.io.video.calling s.cfg .lineDone
  s.setVideo { Video.nextLines s.cfg.linesPerFrame lines start with dot := dot % s.cfg.cyclesPerLine }

/-- `kbd.tick(c)`: no effect (60_exceptions.md R631). -/
def State.tickKbd (s : State) (_c : Nat) : State := s

/-- `pio.tick(c)`: no effect (60_exceptions.md R647). -/
def State.tickPio (s : State) (_c : Nat) : State := s

/-- The rest of a machine step after its CPU step: every device ticked by the step's cycles, in the order timer, video,
keyboard, PIO, and the executed count advanced (60_exceptions.md R621). -/
def State.tickDevices (s : State) : State :=
  let c := s.stepCycles
  let t := (((s.tickTimer c).tickVideo c).tickKbd c).tickPio c
  { t with clock := { t.clock with executed := t.clock.executed + c } }

end Sys2Proof.Machine
end

