-- ==== Sys2Proof/Machine/Flags.lean ====
section
/-! DEFINITION. The flag register F (10_state.md R25) and every result-and-flag computation of the instruction rules. A
function returns the new F whole; a flag its rule leaves unchanged is taken from the old F it is given. -/

namespace Sys2Proof.Machine

/-- S, bit 7 of F (10_state.md R25). -/
def flagS (f : Byte) : Bool := f.getLsbD 7

/-- Z, bit 6. -/
def flagZ (f : Byte) : Bool := f.getLsbD 6

/-- Y (F5), bit 5. -/
def flagY (f : Byte) : Bool := f.getLsbD 5

/-- H, bit 4. -/
def flagH (f : Byte) : Bool := f.getLsbD 4

/-- X (F3), bit 3. -/
def flagX (f : Byte) : Bool := f.getLsbD 3

/-- P/V, bit 2. -/
def flagPV (f : Byte) : Bool := f.getLsbD 2

/-- N, bit 1. -/
def flagN (f : Byte) : Bool := f.getLsbD 1

/-- C, bit 0. -/
def flagC (f : Byte) : Bool := f.getLsbD 0

/-- F from its eight bits, S first (10_state.md R25). -/
def packFlags (s z y h x pv n c : Bool) : Byte :=
  BitVec.ofBool s ++ BitVec.ofBool z ++ BitVec.ofBool y ++ BitVec.ofBool h ++
    BitVec.ofBool x ++ BitVec.ofBool pv ++ BitVec.ofBool n ++ BitVec.ofBool c

/-- F with Y and X replaced. -/
def withYX (f : Byte) (y x : Bool) : Byte :=
  packFlags (flagS f) (flagZ f) y (flagH f) x (flagPV f) (flagN f) (flagC f)

/-- Writes the F that an instruction's rule gives. Under XY_EXACT = false its bits Y and X are the next two free bits instead
(00_scope.md R13, log 7). -/
def State.writeFlags (s : State) (f : Byte) : State :=
  if s.cfg.xyExact then s.setF f
  else { s.setF (withYX f (Config.freeBit s.draws) (Config.freeBit (s.draws + 1))) with draws := s.draws + 2 }

/-- Writes A and F from a word, as POP AF and EX AF,AF' do (41_load16_exchange.md R212, R215). -/
def State.writeAF (s : State) (w : Word) : State := (s.setA (hi w)).writeFlags (lo w)

/-- Writes a register pair operand of rp2[ ] (30_encoding.md R104). -/
def State.setStackPair (s : State) (rp : StackPair) (w : Word) : State :=
  match rp with
  | .bc => s.setMain (s.cpu.main.putBC w)
  | .de => s.setMain (s.cpu.main.putDE w)
  | .hl => s.setMain (s.cpu.main.putHL w)
  | .af => s.writeAF w

/-- Condition evaluation (46_control.md R450). -/
def condHolds (cc : Cond) (f : Byte) : Bool :=
  match cc with
  | .nz => !flagZ f
  | .z => flagZ f
  | .nc => !flagC f
  | .c => flagC f
  | .po => !flagPV f
  | .pe => flagPV f
  | .p => !flagS f
  | .m => flagS f

/-- `add8(a, b, c)`: the result and F (43_alu8.md R300). -/
def add8 (a b : Byte) (c : Bool) : Byte × Byte :=
  let s := a.toNat + b.toNat + c.toNat
  let r := BitVec.ofNat 8 s
  (r, packFlags (r.getLsbD 7) (r == 0) (r.getLsbD 5) ((a ^^^ b ^^^ r).getLsbD 4) (r.getLsbD 3)
    (((a ^^^ r) &&& (b ^^^ r)).getLsbD 7) false (decide (s > 0xFF)))

/-- `sub8(a, b, c)`: the result and F (43_alu8.md R300). -/
def sub8 (a b : Byte) (c : Bool) : Byte × Byte :=
  let s : Int := (a.toNat : Int) - (b.toNat : Int) - (c.toNat : Int)
  let r := BitVec.ofInt 8 s
  (r, packFlags (r.getLsbD 7) (r == 0) (r.getLsbD 5) ((a ^^^ b ^^^ r).getLsbD 4) (r.getLsbD 3)
    (((a ^^^ b) &&& (a ^^^ r)).getLsbD 7) true (decide (s < 0)))

/-- `SZXYP(v)` with the given H and C, N = 0: the flags of the logical instructions, the rotates, IN and the digit rotates
(00_scope.md R14; 43_alu8.md R306 to R308; 45_rotate_bit.md R405, R415; 47_io.md R502). -/
def szxyp (v : Byte) (h c : Bool) : Byte :=
  packFlags (v.getLsbD 7) (v == 0) (v.getLsbD 5) h (v.getLsbD 3) (parity v) false c

/-- F of CP: the flags of sub8 with Y, X from the operand (43_alu8.md R309). -/
def cpFlags (a v : Byte) : Byte := withYX (sub8 a v false).2 (v.getLsbD 5) (v.getLsbD 3)

/-- INC of a byte: the result and F, C unchanged (43_alu8.md R310). -/
def inc8 (v f : Byte) : Byte × Byte :=
  let w := v + 1
  (w, packFlags (w.getLsbD 7) (w == 0) (w.getLsbD 5) (v &&& 0x0F == 0x0F) (w.getLsbD 3) (v == 0x7F) false (flagC f))

/-- DEC of a byte: the result and F, C unchanged (43_alu8.md R312). -/
def dec8 (v f : Byte) : Byte × Byte :=
  let w := v - 1
  (w, packFlags (w.getLsbD 7) (w == 0) (w.getLsbD 5) (v &&& 0x0F == 0x00) (w.getLsbD 3) (v == 0x80) true (flagC f))

/-- DAA: the new A and F (43_alu8.md R320). -/
def daa8 (a f : Byte) : Byte × Byte :=
  let low := (a &&& 0x0F).toNat
  let t1 : Byte := if flagH f || decide (low > 9) then 0x06 else 0x00
  let high := flagC f || decide (a.toNat > 0x99)
  let t : Byte := if high then t1 ||| 0x60 else t1
  let c2 := if high then true else flagC f
  let r := if flagN f then a - t else a + t
  let h2 := if flagN f then flagH f && decide (low < 6) else decide (low > 9)
  (r, packFlags (r.getLsbD 7) (r == 0) (r.getLsbD 5) h2 (r.getLsbD 3) (parity r) (flagN f) c2)

/-- F of CPL from the new A: S, Z, P/V, C unchanged (43_alu8.md R321). -/
def cplFlags (a f : Byte) : Byte :=
  packFlags (flagS f) (flagZ f) (a.getLsbD 5) true (a.getLsbD 3) (flagPV f) true (flagC f)

/-- F of CCF: H takes the old C (43_alu8.md R323). -/
def ccfFlags (a f : Byte) : Byte :=
  packFlags (flagS f) (flagZ f) (a.getLsbD 5) (flagC f) (a.getLsbD 3) (flagPV f) false (!flagC f)

/-- F of SCF (43_alu8.md R324). -/
def scfFlags (a f : Byte) : Byte :=
  packFlags (flagS f) (flagZ f) (a.getLsbD 5) false (a.getLsbD 3) (flagPV f) false true

/-- F of the accumulator rotates from the new A and the bit shifted out: S, Z, P/V unchanged (45_rotate_bit.md R400). -/
def rotAFlags (a : Byte) (c : Bool) (f : Byte) : Byte :=
  packFlags (flagS f) (flagZ f) (a.getLsbD 5) false (a.getLsbD 3) (flagPV f) false c

/-- A byte shifted left with `b` in bit 0. -/
def shiftLeft (v : Byte) (b : Bool) : Byte := (v <<< 1) ||| (BitVec.ofBool b).setWidth 8

/-- A byte shifted right with `b` in bit 7. -/
def shiftRight (v : Byte) (b : Bool) : Byte := (v >>> 1) ||| ((BitVec.ofBool b).setWidth 8 <<< 7)

/-- RLC: the result and the bit shifted out (45_rotate_bit.md R406). -/
def rlc8 (v : Byte) : Byte × Bool := (shiftLeft v (v.getLsbD 7), v.getLsbD 7)

/-- RRC (45_rotate_bit.md R407). -/
def rrc8 (v : Byte) : Byte × Bool := (shiftRight v (v.getLsbD 0), v.getLsbD 0)

/-- RL, the old C shifted in (45_rotate_bit.md R408). -/
def rl8 (v : Byte) (c : Bool) : Byte × Bool := (shiftLeft v c, v.getLsbD 7)

/-- RR, the old C shifted in (45_rotate_bit.md R409). -/
def rr8 (v : Byte) (c : Bool) : Byte × Bool := (shiftRight v c, v.getLsbD 0)

/-- SLA (45_rotate_bit.md R410). -/
def sla8 (v : Byte) : Byte × Bool := (shiftLeft v false, v.getLsbD 7)

/-- SRA, bit 7 kept (45_rotate_bit.md R411). -/
def sra8 (v : Byte) : Byte × Bool := (shiftRight v (v.getLsbD 7), v.getLsbD 0)

/-- SLL, bit 0 set (45_rotate_bit.md R412). -/
def sll8 (v : Byte) : Byte × Bool := (shiftLeft v true, v.getLsbD 7)

/-- SRL (45_rotate_bit.md R413). -/
def srl8 (v : Byte) : Byte × Bool := (shiftRight v false, v.getLsbD 0)

/-- The flags of a CB rotate or shift, N = H = 0 (45_rotate_bit.md R405). -/
def rotFlags (r : Byte × Bool) : Byte := szxyp r.1 false r.2

/-- F of BIT b of `v`, with Y and X as the form gives them; C unchanged (45_rotate_bit.md R420 to R422). -/
def bitFlags (b : BitVec 3) (v : Byte) (y x : Bool) (f : Byte) : Byte :=
  let t := v &&& bitMask b
  packFlags (b == 7 && t != 0) (t == 0) y true x (t == 0) false (flagC f)

/-- ADD HL,rp: the result and F; S, Z, P/V unchanged (44_alu16.md R350). -/
def add16 (a v : Word) (f : Byte) : Word × Byte :=
  let s := a.toNat + v.toNat
  let r := BitVec.ofNat 16 s
  (r, packFlags (flagS f) (flagZ f) (r.getLsbD 13) ((a ^^^ v ^^^ r).getLsbD 12) (r.getLsbD 11) (flagPV f) false
    (decide (s > 0xFFFF)))

/-- ADC HL,rp: the result and F (44_alu16.md R352). -/
def adc16 (a v : Word) (c : Bool) : Word × Byte :=
  let s := a.toNat + v.toNat + c.toNat
  let r := BitVec.ofNat 16 s
  (r, packFlags (r.getLsbD 15) (r == 0) (r.getLsbD 13) ((a ^^^ v ^^^ r).getLsbD 12) (r.getLsbD 11)
    (((a ^^^ r) &&& (v ^^^ r)).getLsbD 15) false (decide (s > 0xFFFF)))

/-- SBC HL,rp: the result and F (44_alu16.md R353). -/
def sbc16 (a v : Word) (c : Bool) : Word × Byte :=
  let s : Int := (a.toNat : Int) - (v.toNat : Int) - (c.toNat : Int)
  let r := BitVec.ofInt 16 s
  (r, packFlags (r.getLsbD 15) (r == 0) (r.getLsbD 13) ((a ^^^ v ^^^ r).getLsbD 12) (r.getLsbD 11)
    (((a ^^^ v) &&& (a ^^^ r)).getLsbD 15) true (decide (s < 0)))

/-- F of LDI and LDD from A, the byte copied and the new BC (42_block.md R250). -/
def ldiFlags (a t : Byte) (bc : Word) (f : Byte) : Byte :=
  let n := a + t
  packFlags (flagS f) (flagZ f) (n.getLsbD 1) false (n.getLsbD 3) (bc != 0) false (flagC f)

/-- F of CPI and CPD from A, the byte read and the new BC (42_block.md R254). -/
def cpiFlags (a t : Byte) (bc : Word) (f : Byte) : Byte :=
  let r := a - t
  let h := decide ((a &&& 0x0F).toNat < (t &&& 0x0F).toNat)
  let n := r - (BitVec.ofBool h).setWidth 8
  packFlags (r.getLsbD 7) (r == 0) (n.getLsbD 1) h (n.getLsbD 3) (bc != 0) true (flagC f)

/-- F of the block I/O instructions from the byte transferred, k and the new B (47_io.md R510). -/
def blockIoFlags (v : Byte) (k : Nat) (b : Byte) : Byte :=
  packFlags (b.getLsbD 7) (b == 0) (b.getLsbD 5) (decide (k > 0xFF)) (b.getLsbD 3)
    (parity ((BitVec.ofNat 8 k &&& 7) ^^^ b)) (v.getLsbD 7) (decide (k > 0xFF))

/-- F of LD A,I and LD A,R from the new A and IFF2; C unchanged (48_cpu_control.md R560). -/
def ldAIFlags (a : Byte) (iff2 : Bool) (f : Byte) : Byte :=
  packFlags (a.getLsbD 7) (a == 0) (a.getLsbD 5) false (a.getLsbD 3) iff2 false (flagC f)

end Sys2Proof.Machine
end

