-- ==== Sys2Proof/Machine/Ops.lean ====
section
/-! DEFINITION. The named operations: the bus dispatcher of both address spaces (20_memory.md R62 to R76), the stack, the
fetch of an instruction (00_scope.md R9), taking an interrupt and returning from one (60_exceptions.md R600 to R615), and the
choice of the step's kind. -/

namespace Sys2Proof.Machine

/-- What the dispatcher finds at an address: a byte of the RAM store, a byte of ROM_IMAGE, a device register, or nothing. -/
inductive BusTarget where
  | ram (key : Nat)
  | rom (off : Nat)
  | device (reg : DevReg)
  | unmapped
  deriving DecidableEq, Repr

/-- The byte of a backing at an offset; a video region fixes its register itself (20_memory.md R64, R66, R77). -/
def backingTarget (bk : Backing) (off : Nat) : BusTarget :=
  match bk with
  | .ram base => .ram (base + off)
  | .rom start => .rom (start + off)
  | .io .kbd => .device (.kbd off)
  | .io (.video reg) => .device (.video reg)
  | .io .pio => .device (.pio off)
  | .unmapped => .unmapped

/-- The target of an address in a region table. The region is unique under R63 (20_memory.md R64); an address that a table
breaking R63 leaves out is unmapped (log 12). -/
def regionTarget : List Region → Nat → BusTarget
  | [], _ => .unmapped
  | g :: rest, a => if g.start ≤ a ∧ a < g.start + g.length then backingTarget g.backing (a - g.start) else regionTarget rest a

/-- The target of an address that a bank descriptor covers: its selected backing (20_memory.md R68). -/
def bankTarget : List Bank → List Nat → Nat → Option BusTarget
  | bank :: banks, j :: js, a =>
    if bank.start ≤ a ∧ a < bank.start + bank.length then
      some (backingTarget (bank.backings.getD j .unmapped) (a - bank.start))
    else bankTarget banks js a
  | _, _, _ => none

/-- The target of a MEM address: banks first, then MEM_MAP (20_memory.md R64, R68). -/
def State.memTarget (s : State) (a : Word) : BusTarget :=
  (bankTarget s.cfg.banks s.mem.bankSel a.toNat).getD (regionTarget s.cfg.memMap a.toNat)

/-- The target of a port: IO_MAP at the decoded bits of the address (20_memory.md R74). -/
def State.ioTarget (s : State) (port : Word) : BusTarget :=
  regionTarget s.cfg.ioMap (port &&& s.cfg.ioDecodeMask).toNat

/-- Reads a bus target (20_memory.md R66, R75). -/
def State.readTarget (s : State) : BusTarget → Byte × State
  | .ram key => (s.mem.ram.read key, s)
  | .rom off => (romRead s.cfg.rom off, s)
  | .device reg => s.devRead reg
  | .unmapped => (s.cfg.fillByte, s)

/-- Writes a RAM byte. -/
def State.writeRam (s : State) (key : Nat) (v : Byte) : State :=
  { s with mem := { s.mem with ram := s.mem.ram.write key v } }

/-- Writes a bus target; a write to ROM or to nothing is ignored (20_memory.md R67, R76). -/
def State.writeTarget (s : State) (target : BusTarget) (v : Byte) : State :=
  match target with
  | .ram key => s.writeRam key v
  | .device reg => s.devWrite reg v
  | .rom _ | .unmapped => s

/-- `MemRead(a, 1)` and the state it leaves (20_memory.md R66). -/
def State.memRead (s : State) (a : Word) : Byte × State := s.readTarget (s.memTarget a)

/-- `MemWrite(a, 1, v)` (20_memory.md R67). -/
def State.memWrite (s : State) (a : Word) (v : Byte) : State := s.writeTarget (s.memTarget a) v

/-- `IoRead(port)` and the state it leaves (20_memory.md R75). -/
def State.ioRead (s : State) (port : Word) : Byte × State := s.readTarget (s.ioTarget port)

/-- `IoWrite(port, v)` (20_memory.md R76). -/
def State.ioWrite (s : State) (port : Word) (v : Byte) : State := s.writeTarget (s.ioTarget port) v

/-- `MemRead16(a)`: the low byte at `a` read first (00_scope.md R9). -/
def State.memRead16 (s : State) (a : Word) : Word × State :=
  let l := s.memRead a
  let h := l.2.memRead (a + 1)
  (joinBytes h.1 l.1, h.2)

/-- `MemWrite16(a, w)`: the low byte at `a` written first (00_scope.md R9). -/
def State.memWrite16 (s : State) (a w : Word) : State := (s.memWrite a (lo w)).memWrite (a + 1) (hi w)

/-- The byte of memory at an address: what RAM, ROM or an unmapped address reads as; none where a device register stands. This
is the reading of memory without effects in which the frame statements are written. -/
def State.byteAt (s : State) (a : Word) : Option Byte :=
  match s.memTarget a with
  | .ram key => some (s.mem.ram.read key)
  | .rom off => some (romRead s.cfg.rom off)
  | .device _ => none
  | .unmapped => some s.cfg.fillByte

/-- `push(w)`: the high byte first, at the higher address (00_scope.md R9). -/
def State.push (s : State) (w : Word) : State :=
  let s1 := (s.setSp (s.cpu.sp - 1)).memWrite (s.cpu.sp - 1) (hi w)
  (s1.setSp (s1.cpu.sp - 1)).memWrite (s1.cpu.sp - 1) (lo w)

/-- `pop()` (00_scope.md R9). -/
def State.pop (s : State) : Word × State :=
  let l := s.memRead s.cpu.sp
  let s1 := l.2.setSp (l.2.cpu.sp + 1)
  let h := s1.memRead s1.cpu.sp
  (joinBytes h.1 l.1, h.2.setSp (h.2.cpu.sp + 1))

/-- `n` bytes read from the bus in order from an address, and the state the reads leave. -/
def State.readBytes : Nat → Word → State → List Byte × State
  | 0, _, s => ([], s)
  | n + 1, a, s =>
    let p := s.memRead a
    let q := State.readBytes n (a + 1) p.2
    (p.1 :: q.1, q.2)

/-- The four bytes at PC, as fetching them one after another would read them. -/
def State.bytesAtPc (s : State) : List Byte := (State.readBytes 4 s.cpu.pc s).1

/-- The instruction at PC (30_encoding.md R113; log 11). -/
def State.nextInstr (s : State) : Instr := decodePadded s.bytesAtPc

/-- The state once the instruction's bytes are fetched: the reads made, PC past them (10_state.md R27), R advanced once for each
M1 cycle (R31), and both inhibit bits clear, as they are left unless the instruction sets one (R34). -/
def State.fetched (s : State) (i : Instr) : State :=
  let t := (State.readBytes i.length s.cpu.pc s).2
  ((t.setPc (t.cpu.pc + BitVec.ofNat 16 i.length)).refresh i.format.m1Fetches).setInhibits false false

/-- The kinds of a CPU step (60_exceptions.md R600). -/
inductive StepKind where
  | nmi | int | idle | instruction
  deriving DecidableEq, Repr

/-- The choice made at the instruction boundary (60_exceptions.md R600, R602, R603). -/
def State.stepKind (s : State) : StepKind :=
  if s.cpu.nmiPending && !s.cpu.prefixInhibit then .nmi
  else if s.cpu.intPending && s.cpu.iff1 && !s.cpu.eiInhibit && !s.cpu.prefixInhibit then .int
  else if s.cpu.halted then .idle
  else .instruction

/-- What every acceptance does first: HALTED cleared, one refresh for the acknowledge cycle, and the inhibit bits clear at the
step's end (60_exceptions.md R600, R610, R615). -/
def State.acknowledge (s : State) : State :=
  ({ s with cpu := { s.cpu with halted := false } }.refresh 1).setInhibits false false

/-- Enters a handler: the return address PC pushed, PC and WZ at the handler (60_exceptions.md R611, R612, R615). -/
def State.enterHandler (s : State) (target : Word) : State :=
  let t := s.push s.cpu.pc
  (t.setPc target).setWz target

/-- NMI acceptance: IFF1 cleared, IFF2 kept (60_exceptions.md R615). -/
def State.acceptNmi (s : State) : State :=
  let t := { s with cpu := { s.cpu with nmiPending := false, iff1 := false } }
  (t.acknowledge.enterHandler 0x0066).took 11

/-- What every maskable acceptance does first (60_exceptions.md R610). -/
def State.beginInt (s : State) : State :=
  { s with cpu := { s.cpu with intPending := false, iff1 := false, iff2 := false } }.acknowledge

/-- The mode-2 entry: the return address pushed, then the handler's address read at I:vector (60_exceptions.md R613). -/
def State.enterByTable (s : State) : State :=
  let t := s.push s.cpu.pc
  let entry := t.memRead16 (joinBytes s.cpu.i s.cpu.intVec)
  (entry.2.setPc entry.1).setWz entry.1

/-- A mode-0 vector byte that is an RST opcode, `11 ttt 111` (60_exceptions.md R611). -/
def isRst (vector : Byte) : Bool := vector &&& 0xC7 == 0xC7

/-- Maskable acceptance in the mode IM selects (60_exceptions.md R610 to R614); a mode-0 vector that is no RST opcode is refused
(R607). -/
def State.acceptInt (s : State) : Host.Outcome State Fault Refusal :=
  match s.cpu.im with
  | .im0 =>
    if isRst s.cpu.intVec then .next ((s.beginInt.enterHandler (zext16 (s.cpu.intVec &&& 0x38))).took 13)
    else .refused (.modeZeroVector s.cpu.intVec)
  | .im1 => .next ((s.beginInt.enterHandler 0x0038).took 13)
  | .im2 => .next (s.beginInt.enterByTable.took 19)

/-- Return from an interrupt handler: PC popped, WZ takes it, IFF1 takes IFF2 (46_control.md R470). -/
def State.returnFromInterrupt (s : State) : State :=
  let p := s.pop
  let t := (p.2.setPc p.1).setWz p.1
  t.setIff t.cpu.iff2 t.cpu.iff2

/-- A halted idle step: one M1 cycle of 4 cycles and nothing else (48_cpu_control.md R552). -/
def State.haltedIdle (s : State) : State := ((s.refresh 1).setInhibits false false).took 4

/-- Stores one byte of a program from outside the machine where a fetch at an address reads it: in the RAM store or in
ROM_IMAGE. Where a device or nothing stands there is no place for it (log 3). -/
def State.placeByte (s : State) (a : Word) (v : Byte) : State :=
  match s.memTarget a with
  | .ram key => s.writeRam key v
  | .rom off => { s with cfg := { s.cfg with rom := romGive s.cfg.rom off v } }
  | .device _ | .unmapped => s

/-- Stores bytes of a program from an address on. -/
def State.placeBytes : List Byte → Word → State → State
  | [], _, s => s
  | v :: vs, a, s => State.placeBytes vs (a + 1) (s.placeByte a v)

/-- The machine ready to execute the instruction at PC in its next step: running, without wait states or undefined video behaviour,
not halted, and without the interrupt requests that would be accepted first. The state after reset is so already. -/
def State.readyToFetch (s : State) : State :=
  { s with
    cfg := { s.cfg with waitStates := 0, videoUndefined := [] }
    io := { s.io with video := { s.io.video with undef := false } }
    life := .running
    cpu := { s.cpu with
      halted := false
      nmiPending := s.cpu.nmiPending && s.cpu.prefixInhibit
      intPending := s.cpu.intPending && !(s.cpu.iff1 && !s.cpu.eiInhibit && !s.cpu.prefixInhibit) } }

end Sys2Proof.Machine
end

