-- ==== Sys2Proof/Machine/Operands.lean ====
section
/-! DEFINITION. The operand forms that the instruction families share: the displaced address, the forms of the 8-bit ALU
(43_alu8.md R301), and the read-modify-write forms of INC, DEC and the CB operations (43_alu8.md R310 to R313,
45_rotate_bit.md R404, R427). -/

namespace Sys2Proof.Machine

/-- The three outcomes of an instruction. -/
abbrev Result := Host.Outcome State Fault Refusal

/-- The effective address of (XY+d), modulo 2^16 (30_encoding.md R102). -/
def State.dispAddr (s : State) (p : IndexReg) (d : Byte) : Word := s.index p + sext16 d

/-- The state once (XY+d) is formed: WZ takes the effective address (40_load8.md R155). -/
def State.formDisp (s : State) (p : IndexReg) (d : Byte) : State := s.setWz (s.dispAddr p d)

/-- Reads (XY+d): WZ takes the effective address, then the byte is read (40_load8.md R155, 43_alu8.md R301). -/
def State.readDisp (s : State) (p : IndexReg) (d : Byte) : Byte × State := (s.formDisp p d).memRead (s.dispAddr p d)

/-- An 8-bit ALU operation: the state after it has worked on A and an operand byte. -/
abbrev AluOp := State → Byte → State

/-- ALU operation on r (43_alu8.md R301). -/
def aluReg (op : AluOp) (r : Reg8) (s : State) : Result := .next ((op s (s.reg8 r)).took 4)

/-- ALU operation on n (43_alu8.md R301). -/
def aluImm (op : AluOp) (n : Byte) (s : State) : Result := .next ((op s n).took 7)

/-- ALU operation on (HL) (43_alu8.md R301). -/
def aluMemHL (op : AluOp) (s : State) : Result :=
  let v := s.memRead s.hl
  .next ((op v.2 v.1).took 7)

/-- ALU operation on (XY+d) (43_alu8.md R301). -/
def aluMemXYd (op : AluOp) (p : IndexReg) (d : Byte) (s : State) : Result :=
  let v := s.readDisp p d
  .next ((op v.2 v.1).took 19)

/-- ALU operation on XYH (43_alu8.md R301). -/
def aluXYH (op : AluOp) (p : IndexReg) (s : State) : Result := .next ((op s (hi (s.index p))).took 8)

/-- ALU operation on XYL (43_alu8.md R301). -/
def aluXYL (op : AluOp) (p : IndexReg) (s : State) : Result := .next ((op s (lo (s.index p))).took 8)

/-- A read-modify-write operation: from the byte read, the byte to write and the state with the flags written. -/
abbrev RmwOp := State → Byte → Byte × State

/-- Read-modify-write of a register. -/
def rmwReg (op : RmwOp) (cycles : Nat) (r : Reg8) (s : State) : Result :=
  let w := op s (s.reg8 r)
  .next ((w.2.setReg8 r w.1).took cycles)

/-- Read-modify-write of XYH. -/
def rmwXYH (op : RmwOp) (cycles : Nat) (p : IndexReg) (s : State) : Result :=
  let w := op s (hi (s.index p))
  .next ((w.2.setIndexHigh p w.1).took cycles)

/-- Read-modify-write of XYL. -/
def rmwXYL (op : RmwOp) (cycles : Nat) (p : IndexReg) (s : State) : Result :=
  let w := op s (lo (s.index p))
  .next ((w.2.setIndexLow p w.1).took cycles)

/-- Read-modify-write of (HL): the read precedes the write (45_rotate_bit.md R404). -/
def rmwMemHL (op : RmwOp) (cycles : Nat) (s : State) : Result :=
  let v := s.memRead s.hl
  let w := op v.2 v.1
  .next ((w.2.memWrite s.hl w.1).took cycles)

/-- Read-modify-write of (XY+d), WZ taking the effective address (45_rotate_bit.md R404). -/
def rmwMemXYd (op : RmwOp) (cycles : Nat) (p : IndexReg) (d : Byte) (s : State) : Result :=
  let v := s.readDisp p d
  let w := op v.2 v.1
  .next ((w.2.memWrite (s.dispAddr p d) w.1).took cycles)

/-- Read-modify-write of (XY+d) with the result copied to a register, also where the write is ignored (45_rotate_bit.md
R427). -/
def rmwMemXYdR (op : RmwOp) (cycles : Nat) (p : IndexReg) (d : Byte) (r : Reg8) (s : State) : Result :=
  let v := s.readDisp p d
  let w := op v.2 v.1
  .next (((w.2.memWrite (s.dispAddr p d) w.1).setReg8 r w.1).took cycles)

end Sys2Proof.Machine
end

