-- ==== Sys2Proof/Machine/Alu16.lean ====
section
/-! DEFINITION. The 16-bit arithmetic instructions (44_alu16.md). -/

namespace Sys2Proof.Machine

/-- ADD HL,rp (R350). -/
def execAddHLRp (rp : RegPair) (s : State) : Result :=
  let r := add16 s.hl (s.pair rp) s.f
  .next ((((s.setWz (s.hl + 1)).setHL r.1).writeFlags r.2).took 11)

/-- ADD XY,rp (R351). -/
def execAddXYRp (p : IndexReg) (rp : XYPair) (s : State) : Result :=
  let r := add16 (s.index p) (s.xyPair p rp) s.f
  .next ((((s.setWz (s.index p + 1)).setIndex p r.1).writeFlags r.2).took 15)

/-- ADC HL,rp (R352). -/
def execAdcHLRp (rp : RegPair) (s : State) : Result :=
  let r := adc16 s.hl (s.pair rp) (flagC s.f)
  .next ((((s.setWz (s.hl + 1)).setHL r.1).writeFlags r.2).took 15)

/-- SBC HL,rp (R353). -/
def execSbcHLRp (rp : RegPair) (s : State) : Result :=
  let r := sbc16 s.hl (s.pair rp) (flagC s.f)
  .next ((((s.setWz (s.hl + 1)).setHL r.1).writeFlags r.2).took 15)

/-- INC rp (R354). -/
def execIncRp (rp : RegPair) (s : State) : Result := .next ((s.setPair rp (s.pair rp + 1)).took 6)

/-- INC XY (R355). -/
def execIncXY (p : IndexReg) (s : State) : Result := .next ((s.setIndex p (s.index p + 1)).took 10)

/-- DEC rp (R356). -/
def execDecRp (rp : RegPair) (s : State) : Result := .next ((s.setPair rp (s.pair rp - 1)).took 6)

/-- DEC XY (R357). -/
def execDecXY (p : IndexReg) (s : State) : Result := .next ((s.setIndex p (s.index p - 1)).took 10)

end Sys2Proof.Machine
end

