-- ==== Sys2Proof/Machine/Alu8.lean ====
section
/-! DEFINITION. The 8-bit arithmetic and logic instructions (43_alu8.md): the eight two-operand operations in the forms of
R301, INC and DEC, and the operations on A and F. -/

namespace Sys2Proof.Machine

/-- ADD A,v (R302). -/
def aluAdd : AluOp := fun s v =>
  let r := add8 s.a v false
  (s.setA r.1).writeFlags r.2

/-- ADC A,v: C read before it is written (R303). -/
def aluAdc : AluOp := fun s v =>
  let r := add8 s.a v (flagC s.f)
  (s.setA r.1).writeFlags r.2

/-- SUB v (R304). -/
def aluSub : AluOp := fun s v =>
  let r := sub8 s.a v false
  (s.setA r.1).writeFlags r.2

/-- SBC A,v (R305). -/
def aluSbc : AluOp := fun s v =>
  let r := sub8 s.a v (flagC s.f)
  (s.setA r.1).writeFlags r.2

/-- AND v (R306). -/
def aluAnd : AluOp := fun s v => (s.setA (s.a &&& v)).writeFlags (szxyp (s.a &&& v) true false)

/-- XOR v (R307). -/
def aluXor : AluOp := fun s v => (s.setA (s.a ^^^ v)).writeFlags (szxyp (s.a ^^^ v) false false)

/-- OR v (R308). -/
def aluOr : AluOp := fun s v => (s.setA (s.a ||| v)).writeFlags (szxyp (s.a ||| v) false false)

/-- CP v: A unchanged (R309). -/
def aluCp : AluOp := fun s v => s.writeFlags (cpFlags s.a v)

/-- INC of a byte (R310, R311). -/
def incOp : RmwOp := fun s v => ((inc8 v s.f).1, s.writeFlags (inc8 v s.f).2)

/-- DEC of a byte (R312, R313). -/
def decOp : RmwOp := fun s v => ((dec8 v s.f).1, s.writeFlags (dec8 v s.f).2)

/-- ADD A,r (R302). -/
def execAddAR (r : Reg8) (s : State) : Result := aluReg aluAdd r s

/-- ADD A,(HL) (R302). -/
def execAddAMemHL (s : State) : Result := aluMemHL aluAdd s

/-- ADD A,n (R302). -/
def execAddAN (n : Byte) (s : State) : Result := aluImm aluAdd n s

/-- ADD A,XYH (R302). -/
def execAddAXYH (p : IndexReg) (s : State) : Result := aluXYH aluAdd p s

/-- ADD A,XYL (R302). -/
def execAddAXYL (p : IndexReg) (s : State) : Result := aluXYL aluAdd p s

/-- ADD A,(XY+d) (R302). -/
def execAddAMemXYd (p : IndexReg) (d : Byte) (s : State) : Result := aluMemXYd aluAdd p d s

/-- ADC A,r (R303). -/
def execAdcAR (r : Reg8) (s : State) : Result := aluReg aluAdc r s

/-- ADC A,(HL) (R303). -/
def execAdcAMemHL (s : State) : Result := aluMemHL aluAdc s

/-- ADC A,n (R303). -/
def execAdcAN (n : Byte) (s : State) : Result := aluImm aluAdc n s

/-- ADC A,XYH (R303). -/
def execAdcAXYH (p : IndexReg) (s : State) : Result := aluXYH aluAdc p s

/-- ADC A,XYL (R303). -/
def execAdcAXYL (p : IndexReg) (s : State) : Result := aluXYL aluAdc p s

/-- ADC A,(XY+d) (R303). -/
def execAdcAMemXYd (p : IndexReg) (d : Byte) (s : State) : Result := aluMemXYd aluAdc p d s

/-- SUB r (R304). -/
def execSubR (r : Reg8) (s : State) : Result := aluReg aluSub r s

/-- SUB (HL) (R304). -/
def execSubMemHL (s : State) : Result := aluMemHL aluSub s

/-- SUB n (R304). -/
def execSubN (n : Byte) (s : State) : Result := aluImm aluSub n s

/-- SUB XYH (R304). -/
def execSubXYH (p : IndexReg) (s : State) : Result := aluXYH aluSub p s

/-- SUB XYL (R304). -/
def execSubXYL (p : IndexReg) (s : State) : Result := aluXYL aluSub p s

/-- SUB (XY+d) (R304). -/
def execSubMemXYd (p : IndexReg) (d : Byte) (s : State) : Result := aluMemXYd aluSub p d s

/-- SBC A,r (R305). -/
def execSbcAR (r : Reg8) (s : State) : Result := aluReg aluSbc r s

/-- SBC A,(HL) (R305). -/
def execSbcAMemHL (s : State) : Result := aluMemHL aluSbc s

/-- SBC A,n (R305). -/
def execSbcAN (n : Byte) (s : State) : Result := aluImm aluSbc n s

/-- SBC A,XYH (R305). -/
def execSbcAXYH (p : IndexReg) (s : State) : Result := aluXYH aluSbc p s

/-- SBC A,XYL (R305). -/
def execSbcAXYL (p : IndexReg) (s : State) : Result := aluXYL aluSbc p s

/-- SBC A,(XY+d) (R305). -/
def execSbcAMemXYd (p : IndexReg) (d : Byte) (s : State) : Result := aluMemXYd aluSbc p d s

/-- AND r (R306). -/
def execAndR (r : Reg8) (s : State) : Result := aluReg aluAnd r s

/-- AND (HL) (R306). -/
def execAndMemHL (s : State) : Result := aluMemHL aluAnd s

/-- AND n (R306). -/
def execAndN (n : Byte) (s : State) : Result := aluImm aluAnd n s

/-- AND XYH (R306). -/
def execAndXYH (p : IndexReg) (s : State) : Result := aluXYH aluAnd p s

/-- AND XYL (R306). -/
def execAndXYL (p : IndexReg) (s : State) : Result := aluXYL aluAnd p s

/-- AND (XY+d) (R306). -/
def execAndMemXYd (p : IndexReg) (d : Byte) (s : State) : Result := aluMemXYd aluAnd p d s

/-- XOR r (R307). -/
def execXorR (r : Reg8) (s : State) : Result := aluReg aluXor r s

/-- XOR (HL) (R307). -/
def execXorMemHL (s : State) : Result := aluMemHL aluXor s

/-- XOR n (R307). -/
def execXorN (n : Byte) (s : State) : Result := aluImm aluXor n s

/-- XOR XYH (R307). -/
def execXorXYH (p : IndexReg) (s : State) : Result := aluXYH aluXor p s

/-- XOR XYL (R307). -/
def execXorXYL (p : IndexReg) (s : State) : Result := aluXYL aluXor p s

/-- XOR (XY+d) (R307). -/
def execXorMemXYd (p : IndexReg) (d : Byte) (s : State) : Result := aluMemXYd aluXor p d s

/-- OR r (R308). -/
def execOrR (r : Reg8) (s : State) : Result := aluReg aluOr r s

/-- OR (HL) (R308). -/
def execOrMemHL (s : State) : Result := aluMemHL aluOr s

/-- OR n (R308). -/
def execOrN (n : Byte) (s : State) : Result := aluImm aluOr n s

/-- OR XYH (R308). -/
def execOrXYH (p : IndexReg) (s : State) : Result := aluXYH aluOr p s

/-- OR XYL (R308). -/
def execOrXYL (p : IndexReg) (s : State) : Result := aluXYL aluOr p s

/-- OR (XY+d) (R308). -/
def execOrMemXYd (p : IndexReg) (d : Byte) (s : State) : Result := aluMemXYd aluOr p d s

/-- CP r (R309). -/
def execCpR (r : Reg8) (s : State) : Result := aluReg aluCp r s

/-- CP (HL) (R309). -/
def execCpMemHL (s : State) : Result := aluMemHL aluCp s

/-- CP n (R309). -/
def execCpN (n : Byte) (s : State) : Result := aluImm aluCp n s

/-- CP XYH (R309). -/
def execCpXYH (p : IndexReg) (s : State) : Result := aluXYH aluCp p s

/-- CP XYL (R309). -/
def execCpXYL (p : IndexReg) (s : State) : Result := aluXYL aluCp p s

/-- CP (XY+d) (R309). -/
def execCpMemXYd (p : IndexReg) (d : Byte) (s : State) : Result := aluMemXYd aluCp p d s

/-- INC r (R310). -/
def execIncR (r : Reg8) (s : State) : Result := rmwReg incOp 4 r s

/-- INC XYH (R310). -/
def execIncXYH (p : IndexReg) (s : State) : Result := rmwXYH incOp 8 p s

/-- INC XYL (R310). -/
def execIncXYL (p : IndexReg) (s : State) : Result := rmwXYL incOp 8 p s

/-- INC (HL) (R311). -/
def execIncMemHL (s : State) : Result := rmwMemHL incOp 11 s

/-- INC (XY+d) (R311). -/
def execIncMemXYd (p : IndexReg) (d : Byte) (s : State) : Result := rmwMemXYd incOp 23 p d s

/-- DEC r (R312). -/
def execDecR (r : Reg8) (s : State) : Result := rmwReg decOp 4 r s

/-- DEC XYH (R312). -/
def execDecXYH (p : IndexReg) (s : State) : Result := rmwXYH decOp 8 p s

/-- DEC XYL (R312). -/
def execDecXYL (p : IndexReg) (s : State) : Result := rmwXYL decOp 8 p s

/-- DEC (HL) (R313). -/
def execDecMemHL (s : State) : Result := rmwMemHL decOp 11 s

/-- DEC (XY+d) (R313). -/
def execDecMemXYd (p : IndexReg) (d : Byte) (s : State) : Result := rmwMemXYd decOp 23 p d s

/-- DAA (R320). -/
def execDaa (s : State) : Result :=
  let r := daa8 s.a s.f
  .next (((s.setA r.1).writeFlags r.2).took 4)

/-- CPL (R321). -/
def execCpl (s : State) : Result := .next (((s.setA (~~~s.a)).writeFlags (cplFlags (~~~s.a) s.f)).took 4)

/-- NEG; the opcode field y does not matter (R322). -/
def execNeg (_y : BitVec 3) (s : State) : Result :=
  let r := sub8 0 s.a false
  .next (((s.setA r.1).writeFlags r.2).took 8)

/-- CCF (R323). -/
def execCcf (s : State) : Result := .next ((s.writeFlags (ccfFlags s.a s.f)).took 4)

/-- SCF (R324). -/
def execScf (s : State) : Result := .next ((s.writeFlags (scfFlags s.a s.f)).took 4)

end Sys2Proof.Machine
end

