-- ==== Sys2Proof/Machine/Block.lean ====
section
/-! DEFINITION. The block transfer and search instructions (42_block.md). Each iteration of a repeating form is one step
(R258). -/

namespace Sys2Proof.Machine

/-- A repeating block instruction goes on with its next iteration: PC back at A0, the address of its first byte, 21 cycles
(42_block.md R258). -/
def State.repeatInstr (s : State) : State := (s.setPc (s.cpu.pc - 2)).took 21

/-- The body of LDI (`step` = 1) and LDD (`step` = -1) (R250, R251). -/
def State.copyStep (s : State) (step : Word) : State :=
  let t := s.memRead s.hl
  let u := t.2.memWrite s.de t.1
  let m := u.cpu.main
  let v := u.setMain (((m.putHL (m.hl + step)).putDE (m.de + step)).putBC (m.bc - 1))
  v.writeFlags (ldiFlags v.a t.1 v.bc v.f)

/-- The body of CPI and CPD: the byte compared, and the state (R254, R255). -/
def State.searchStep (s : State) (step : Word) : Byte × State :=
  let t := s.memRead s.hl
  let m := t.2.cpu.main
  let u := (t.2.setMain ((m.putHL (m.hl + step)).putBC (m.bc - 1))).setWz (t.2.cpu.wz + step)
  (t.1, u.writeFlags (cpiFlags u.a t.1 u.bc u.f))

/-- The end of an iteration of LDIR or LDDR: repeated while BC is not 0, WZ then A0 + 1 (R252). -/
def State.repeatCopy (s : State) : State :=
  if s.bc != 0 then (s.setWz (s.cpu.pc - 1)).repeatInstr else s.took 16

/-- The end of an iteration of CPIR or CPDR on the byte compared: repeated while BC is not 0 and the byte is not A (R256). -/
def State.repeatSearch (s : State) (t : Byte) : State :=
  if s.bc != 0 && s.a - t != 0 then (s.setWz (s.cpu.pc - 1)).repeatInstr else s.took 16

/-- LDI (R250). -/
def execLdi (s : State) : Result := .next ((s.copyStep 1).took 16)

/-- LDD (R251). -/
def execLdd (s : State) : Result := .next ((s.copyStep (-1)).took 16)

/-- LDIR, one iteration (R252, R258). -/
def execLdir (s : State) : Result := .next (s.copyStep 1).repeatCopy

/-- LDDR, one iteration (R253, R258). -/
def execLddr (s : State) : Result := .next (s.copyStep (-1)).repeatCopy

/-- CPI (R254). -/
def execCpi (s : State) : Result := .next ((s.searchStep 1).2.took 16)

/-- CPD (R255). -/
def execCpd (s : State) : Result := .next ((s.searchStep (-1)).2.took 16)

/-- CPIR, one iteration (R256, R258). -/
def execCpir (s : State) : Result :=
  let t := s.searchStep 1
  .next (t.2.repeatSearch t.1)

/-- CPDR, one iteration (R257, R258). -/
def execCpdr (s : State) : Result :=
  let t := s.searchStep (-1)
  .next (t.2.repeatSearch t.1)

end Sys2Proof.Machine
end

