-- ==== Sys2Proof/Machine/Control.lean ====
section
/-! DEFINITION. The control transfer instructions (46_control.md). PC holds `next`, the address after the instruction, when a
meaning runs. None of them writes F. -/

namespace Sys2Proof.Machine

/-- A jump that WZ follows: PC and WZ take the target. -/
def State.jumpTo (s : State) (target : Word) : State := (s.setPc target).setWz target

/-- A relative jump from `next` (46_control.md R453). -/
def State.jumpBy (s : State) (e : Byte) : State := s.jumpTo (s.cpu.pc + sext16 e)

/-- PC popped, and WZ with it (46_control.md R462). -/
def State.popPc (s : State) : State :=
  let p := s.pop
  p.2.jumpTo p.1

/-- JP nn (R451). -/
def execJp (nn : Word) (s : State) : Result := .next ((s.jumpTo nn).took 10)

/-- JP cc,nn: WZ written whether or not the jump is taken (R452). -/
def execJpCc (cc : Cond) (nn : Word) (s : State) : Result :=
  .next ((if condHolds cc s.f then s.jumpTo nn else s.setWz nn).took 10)

/-- JR e (R453). -/
def execJr (e : Byte) (s : State) : Result := .next ((s.jumpBy e).took 12)

/-- JR cc,e (R454). -/
def execJrCc (cc : Cond) (e : Byte) (s : State) : Result :=
  .next (if condHolds cc s.f then (s.jumpBy e).took 12 else s.took 7)

/-- DJNZ e (R455). -/
def execDjnz (e : Byte) (s : State) : Result :=
  let t := s.setReg8 .b (s.reg8 .b - 1)
  .next (if t.reg8 .b != 0 then (t.jumpBy e).took 13 else t.took 8)

/-- JP (HL): PC takes HL itself, WZ unchanged (R456). -/
def execJpHL (s : State) : Result := .next ((s.setPc s.hl).took 4)

/-- JP (XY) (R457). -/
def execJpXY (p : IndexReg) (s : State) : Result := .next ((s.setPc (s.index p)).took 8)

/-- The call itself: `next` pushed, PC at the target; WZ as already written (R460). -/
def State.callTo (s : State) (target : Word) : State := (s.push s.cpu.pc).setPc target

/-- CALL nn (R460). -/
def execCall (nn : Word) (s : State) : Result := .next (((s.setWz nn).callTo nn).took 17)

/-- CALL cc,nn: WZ written in both cases (R461). -/
def execCallCc (cc : Cond) (nn : Word) (s : State) : Result :=
  .next (if condHolds cc s.f then ((s.setWz nn).callTo nn).took 17 else (s.setWz nn).took 10)

/-- RET (R462). -/
def execRet (s : State) : Result := .next (s.popPc.took 10)

/-- RET cc (R463). -/
def execRetCc (cc : Cond) (s : State) : Result := .next (if condHolds cc s.f then s.popPc.took 11 else s.took 5)

/-- RETN; the opcode field y does not matter (R470). -/
def execRetn (_y : BitVec 3) (s : State) : Result := .next (s.returnFromInterrupt.took 14)

/-- RETI: as RETN, no device listens for its signal (R470). -/
def execReti (s : State) : Result := .next (s.returnFromInterrupt.took 14)

/-- RST t, t = y * 8 (R475). -/
def execRst (y : BitVec 3) (s : State) : Result := .next ((s.enterHandler (BitVec.ofNat 16 (8 * y.toNat))).took 11)

end Sys2Proof.Machine
end

