-- ==== Sys2Proof/Machine/CpuControl.lean ====
section
/-! DEFINITION. The CPU control instructions (48_cpu_control.md). -/

namespace Sys2Proof.Machine

/-- NOP (R550). -/
def execNop (s : State) : Result := .next (s.took 4)

/-- HALT: PC stays at the byte after it (R552). -/
def execHalt (s : State) : Result := .next ({ s with cpu := { s.cpu with halted := true } }.took 4)

/-- DI (R553). -/
def execDi (s : State) : Result := .next ((s.setIff false false).took 4)

/-- EI: EI_INHIBIT blocks the maskable interrupt at the next boundary (R554, 10_state.md R34). -/
def execEi (s : State) : Result := .next (((s.setIff true true).setInhibits true false).took 4)

/-- im[ ] (30_encoding.md R104, 48_cpu_control.md R555). -/
def imOf : BitVec 3 → IntMode
  | 0 | 1 | 4 | 5 => .im0
  | 2 | 6 => .im1
  | 3 | 7 => .im2

/-- IM m, m = im[y] (R555). -/
def execIm (y : BitVec 3) (s : State) : Result := .next ({ s with cpu := { s.cpu with im := imOf y } }.took 8)

/-- A takes I or R, with the flags of R560. -/
def State.readToA (s : State) (v : Byte) : State := (s.setA v).writeFlags (ldAIFlags v s.cpu.iff2 s.f)

/-- LD A,I (R560). -/
def execLdAI (s : State) : Result := .next ((s.readToA s.cpu.i).took 9)

/-- LD A,R: R already holds this instruction's two increments (R561). -/
def execLdAR (s : State) : Result := .next ((s.readToA s.cpu.r).took 9)

/-- LD I,A (R562). -/
def execLdIA (s : State) : Result := .next ({ s with cpu := { s.cpu with i := s.a } }.took 9)

/-- LD R,A: all eight bits (R563). -/
def execLdRA (s : State) : Result := .next ((s.setR s.a).took 9)

/-- An ignored index prefix: PREFIX_INHIBIT blocks both interrupts at the next boundary (R570, 10_state.md R34). -/
def execPrefixIgnored (_p : IndexReg) (s : State) : Result := .next ((s.setInhibits false true).took 4)

/-- NONI: nothing beyond its two M1 fetches (R571). -/
def execNoni (_op : Byte) (s : State) : Result := .next (s.took 8)

end Sys2Proof.Machine
end

