-- ==== Sys2Proof/Machine/InOut.lean ====
section
/-! DEFINITION. The input and output instructions (47_io.md). Port formation is 20_memory.md R73. -/

namespace Sys2Proof.Machine

/-- IN A,(n): the port is A:n (R500). -/
def execInAN (n : Byte) (s : State) : Result :=
  let port := joinBytes s.a n
  let v := s.ioRead port
  .next (((v.2.setA v.1).setWz (port + 1)).took 11)

/-- OUT (n),A: the port is A:n (R501). -/
def execOutNA (n : Byte) (s : State) : Result :=
  .next (((s.ioWrite (joinBytes s.a n) s.a).setWz (joinBytes s.a (n + 1))).took 11)

/-- The read of IN r,(C) and IN (C): the port is BC, WZ and F are written (R502, R503). -/
def State.inFromC (s : State) : Byte × State :=
  let v := s.ioRead s.bc
  (v.1, (v.2.setWz (s.bc + 1)).writeFlags (szxyp v.1 false (flagC s.f)))

/-- IN r,(C) (R502). -/
def execInRC (r : Reg8) (s : State) : Result :=
  let v := s.inFromC
  .next ((v.2.setReg8 r v.1).took 12)

/-- IN (C): the byte is not stored (R503). -/
def execInC (s : State) : Result := .next (s.inFromC.2.took 12)

/-- The write of OUT (C),r and OUT (C),0 (R504, R505). -/
def State.outToC (s : State) (v : Byte) : State := (s.ioWrite s.bc v).setWz (s.bc + 1)

/-- OUT (C),r (R504). -/
def execOutCR (r : Reg8) (s : State) : Result := .next ((s.outToC (s.reg8 r)).took 12)

/-- OUT (C),0: the NMOS part writes 0x00 (R505). -/
def execOutC0 (s : State) : Result := .next ((s.outToC 0x00).took 12)

/-- The body of INI (`step` = 1) and IND (`step` = -1): the port uses B before the decrement (R506, R507). -/
def State.inStep (s : State) (step : Word) : State :=
  let v := s.ioRead s.bc
  let t := (v.2.setWz (s.bc + step)).memWrite s.hl v.1
  let m := t.cpu.main
  let u := t.setMain ({ m with b := m.b - 1 }.putHL (m.hl + step))
  let k := v.1.toNat + (u.cpu.main.c + lo step).toNat
  u.writeFlags (blockIoFlags v.1 k u.cpu.main.b)

/-- The body of OUTI and OUTD: the port uses B after the decrement, and k uses the new L (R508, R509). -/
def State.outStep (s : State) (step : Word) : State :=
  let v := s.memRead s.hl
  let m := v.2.cpu.main
  let t := v.2.setMain { m with b := m.b - 1 }
  let u := t.ioWrite t.bc v.1
  let w := (u.setHL (u.hl + step)).setWz (u.bc + step)
  let k := v.1.toNat + w.cpu.main.l.toNat
  w.writeFlags (blockIoFlags v.1 k w.cpu.main.b)

/-- The end of an iteration of a repeating block I/O instruction: repeated while B is not 0, WZ as the body left it (R511). -/
def State.repeatIo (s : State) : State := if s.cpu.main.b != 0 then s.repeatInstr else s.took 16

/-- INI (R506). -/
def execIni (s : State) : Result := .next ((s.inStep 1).took 16)

/-- IND (R507). -/
def execInd (s : State) : Result := .next ((s.inStep (-1)).took 16)

/-- OUTI (R508). -/
def execOuti (s : State) : Result := .next ((s.outStep 1).took 16)

/-- OUTD (R509). -/
def execOutd (s : State) : Result := .next ((s.outStep (-1)).took 16)

/-- INIR, one iteration (R511). -/
def execInir (s : State) : Result := .next (s.inStep 1).repeatIo

/-- INDR, one iteration (R512). -/
def execIndr (s : State) : Result := .next (s.inStep (-1)).repeatIo

/-- OTIR, one iteration (R513). -/
def execOtir (s : State) : Result := .next (s.outStep 1).repeatIo

/-- OTDR, one iteration (R514). -/
def execOtdr (s : State) : Result := .next (s.outStep (-1)).repeatIo

end Sys2Proof.Machine
end

