-- ==== Sys2Proof/Machine/Load16.lean ====
section
/-! DEFINITION. The 16-bit load, stack and exchange instructions (41_load16_exchange.md). -/

namespace Sys2Proof.Machine

/-- LD rp,nn (R200). -/
def execLdRpNn (rp : RegPair) (nn : Word) (s : State) : Result := .next ((s.setPair rp nn).took 10)

/-- LD XY,nn (R201). -/
def execLdXYNn (p : IndexReg) (nn : Word) (s : State) : Result := .next ((s.setIndex p nn).took 14)

/-- LD HL,(nn) (R202). -/
def execLdHLMemNn (nn : Word) (s : State) : Result :=
  let w := s.memRead16 nn
  .next (((w.2.setHL w.1).setWz (nn + 1)).took 16)

/-- LD XY,(nn) (R203). -/
def execLdXYMemNn (p : IndexReg) (nn : Word) (s : State) : Result :=
  let w := s.memRead16 nn
  .next (((w.2.setIndex p w.1).setWz (nn + 1)).took 20)

/-- LD rp,(nn), the ED form (R204). -/
def execLdRpMemNn (rp : RegPair) (nn : Word) (s : State) : Result :=
  let w := s.memRead16 nn
  .next (((w.2.setPair rp w.1).setWz (nn + 1)).took 20)

/-- LD (nn),HL (R205). -/
def execLdMemNnHL (nn : Word) (s : State) : Result := .next (((s.memWrite16 nn s.hl).setWz (nn + 1)).took 16)

/-- LD (nn),XY (R206). -/
def execLdMemNnXY (nn : Word) (p : IndexReg) (s : State) : Result :=
  .next (((s.memWrite16 nn (s.index p)).setWz (nn + 1)).took 20)

/-- LD (nn),rp, the ED form (R207). -/
def execLdMemNnRp (nn : Word) (rp : RegPair) (s : State) : Result :=
  .next (((s.memWrite16 nn (s.pair rp)).setWz (nn + 1)).took 20)

/-- LD SP,HL (R208). -/
def execLdSPHL (s : State) : Result := .next ((s.setSp s.hl).took 6)

/-- LD SP,XY (R209). -/
def execLdSPXY (p : IndexReg) (s : State) : Result := .next ((s.setSp (s.index p)).took 10)

/-- PUSH rp2 (R210). -/
def execPushRp2 (rp : StackPair) (s : State) : Result := .next ((s.push (s.stackPair rp)).took 11)

/-- PUSH XY (R211). -/
def execPushXY (p : IndexReg) (s : State) : Result := .next ((s.push (s.index p)).took 15)

/-- POP rp2 (R212); POP AF writes all eight bits of F (10_state.md R26), its bits Y and X as 00_scope.md R13 says. -/
def execPopRp2 (rp : StackPair) (s : State) : Result :=
  let w := s.pop
  .next ((w.2.setStackPair rp w.1).took 10)

/-- POP XY (R213). -/
def execPopXY (p : IndexReg) (s : State) : Result :=
  let w := s.pop
  .next ((w.2.setIndex p w.1).took 14)

/-- EX DE,HL (R214). -/
def execExDEHL (s : State) : Result := .next ((s.setMain ((s.cpu.main.putDE s.hl).putHL s.de)).took 4)

/-- EX AF,AF' (R215); F is written as 00_scope.md R13 says, and F' takes F's eight bits (log 7). -/
def execExAFAF (s : State) : Result :=
  .next (((s.writeAF s.cpu.shadow.af).setShadow (s.cpu.shadow.putAF s.cpu.main.af)).took 4)

/-- EXX: BC, DE and HL exchanged with the shadow set (R216). -/
def execExx (s : State) : Result :=
  let m := s.cpu.main
  let m' := s.cpu.shadow
  .next (((s.setMain ((m.putBC m'.bc).putDE m'.de |>.putHL m'.hl)).setShadow
    ((m'.putBC m.bc).putDE m.de |>.putHL m.hl)).took 4)

/-- The word at (SP) exchanged with `w`, the accesses in R217's order; the word read, and the state. -/
def State.exchangeSP (s : State) (w : Word) : Word × State :=
  let t := s.memRead16 s.cpu.sp
  let u := (t.2.memWrite (s.cpu.sp + 1) (hi w)).memWrite s.cpu.sp (lo w)
  (t.1, u)

/-- EX (SP),HL (R217). -/
def execExMemSPHL (s : State) : Result :=
  let t := s.exchangeSP s.hl
  .next (((t.2.setHL t.1).setWz t.1).took 19)

/-- EX (SP),XY (R218). -/
def execExMemSPXY (p : IndexReg) (s : State) : Result :=
  let t := s.exchangeSP (s.index p)
  .next (((t.2.setIndex p t.1).setWz t.1).took 23)

end Sys2Proof.Machine
end

