-- ==== Sys2Proof/Machine/Load8.lean ====
section
/-! DEFINITION. The 8-bit load instructions (40_load8.md). None of them writes F. -/

namespace Sys2Proof.Machine

/-- WZ after a store of A at an address: A above the low byte of the address plus 1 (40_load8.md R163 to R165). -/
def storeAWz (a : Byte) (addr : Word) : Word := joinBytes a (lo (addr + 1))

/-- LD r,r' (R150). -/
def execLdRR (dst src : Reg8) (s : State) : Result := .next ((s.setReg8 dst (s.reg8 src)).took 4)

/-- LD r,XYH (R151). -/
def execLdRXYH (r : XYReg8) (p : IndexReg) (s : State) : Result := .next ((s.setXYReg8 p r (hi (s.index p))).took 8)

/-- LD r,XYL (R151). -/
def execLdRXYL (r : XYReg8) (p : IndexReg) (s : State) : Result := .next ((s.setXYReg8 p r (lo (s.index p))).took 8)

/-- LD XYH,r (R151). -/
def execLdXYHR (p : IndexReg) (r : Reg8) (s : State) : Result := .next ((s.setIndexHigh p (s.reg8 r)).took 8)

/-- LD XYL,r (R151). -/
def execLdXYLR (p : IndexReg) (r : Reg8) (s : State) : Result := .next ((s.setIndexLow p (s.reg8 r)).took 8)

/-- LD r,n (R152). -/
def execLdRN (r : Reg8) (n : Byte) (s : State) : Result := .next ((s.setReg8 r n).took 7)

/-- LD XYH,n (R153). -/
def execLdXYHN (p : IndexReg) (n : Byte) (s : State) : Result := .next ((s.setIndexHigh p n).took 11)

/-- LD XYL,n (R153). -/
def execLdXYLN (p : IndexReg) (n : Byte) (s : State) : Result := .next ((s.setIndexLow p n).took 11)

/-- LD r,(HL) (R154). -/
def execLdRMemHL (r : Reg8) (s : State) : Result :=
  let v := s.memRead s.hl
  .next ((v.2.setReg8 r v.1).took 7)

/-- LD r,(XY+d) (R155). -/
def execLdRMemXYd (r : Reg8) (p : IndexReg) (d : Byte) (s : State) : Result :=
  let v := s.readDisp p d
  .next ((v.2.setReg8 r v.1).took 19)

/-- LD (HL),r (R156). -/
def execLdMemHLR (r : Reg8) (s : State) : Result := .next ((s.memWrite s.hl (s.reg8 r)).took 7)

/-- LD (XY+d),r (R157). -/
def execLdMemXYdR (p : IndexReg) (d : Byte) (r : Reg8) (s : State) : Result :=
  .next (((s.formDisp p d).memWrite (s.dispAddr p d) (s.reg8 r)).took 19)

/-- LD (HL),n (R158). -/
def execLdMemHLN (n : Byte) (s : State) : Result := .next ((s.memWrite s.hl n).took 10)

/-- LD (XY+d),n (R159). -/
def execLdMemXYdN (p : IndexReg) (d n : Byte) (s : State) : Result :=
  .next (((s.formDisp p d).memWrite (s.dispAddr p d) n).took 19)

/-- A takes the byte at an address, and WZ the address plus 1 (R160 to R162). -/
def State.loadA (s : State) (addr : Word) : State :=
  let v := s.memRead addr
  (v.2.setA v.1).setWz (addr + 1)

/-- LD A,(BC) (R160). -/
def execLdAMemBC (s : State) : Result := .next ((s.loadA s.bc).took 7)

/-- LD A,(DE) (R161). -/
def execLdAMemDE (s : State) : Result := .next ((s.loadA s.de).took 7)

/-- LD A,(nn) (R162). -/
def execLdAMemNn (nn : Word) (s : State) : Result := .next ((s.loadA nn).took 13)

/-- A stored at an address, and WZ as R163 to R165 give it. -/
def State.storeA (s : State) (addr : Word) : State := (s.memWrite addr s.a).setWz (storeAWz s.a addr)

/-- LD (BC),A (R163). -/
def execLdMemBCA (s : State) : Result := .next ((s.storeA s.bc).took 7)

/-- LD (DE),A (R164). -/
def execLdMemDEA (s : State) : Result := .next ((s.storeA s.de).took 7)

/-- LD (nn),A (R165). -/
def execLdMemNnA (nn : Word) (s : State) : Result := .next ((s.storeA nn).took 13)

end Sys2Proof.Machine
end

