-- ==== Sys2Proof/Machine/RotateBit.lean ====
section
/-! DEFINITION. The rotate, shift and bit instructions (45_rotate_bit.md). -/

namespace Sys2Proof.Machine

/-- An accumulator rotate from its result and the bit shifted out (R400 to R403). -/
def State.rotateA (s : State) (r : Byte × Bool) : Result :=
  .next (((s.setA r.1).writeFlags (rotAFlags r.1 r.2 s.f)).took 4)

/-- RLCA (R400). -/
def execRlca (s : State) : Result := s.rotateA (rlc8 s.a)

/-- RRCA (R401). -/
def execRrca (s : State) : Result := s.rotateA (rrc8 s.a)

/-- RLA (R402). -/
def execRla (s : State) : Result := s.rotateA (rl8 s.a (flagC s.f))

/-- RRA (R403). -/
def execRra (s : State) : Result := s.rotateA (rr8 s.a (flagC s.f))

/-- A CB rotate or shift, from its function of the byte and the old C (R405). -/
def rotOp (f : Byte → Bool → Byte × Bool) : RmwOp := fun s v =>
  let r := f v (flagC s.f)
  (r.1, s.writeFlags (rotFlags r))

/-- RLC of a byte (R406). -/
def rlcOp : RmwOp := rotOp (fun v _ => rlc8 v)

/-- RRC of a byte (R407). -/
def rrcOp : RmwOp := rotOp (fun v _ => rrc8 v)

/-- RL of a byte (R408). -/
def rlOp : RmwOp := rotOp rl8

/-- RR of a byte (R409). -/
def rrOp : RmwOp := rotOp rr8

/-- SLA of a byte (R410). -/
def slaOp : RmwOp := rotOp (fun v _ => sla8 v)

/-- SRA of a byte (R411). -/
def sraOp : RmwOp := rotOp (fun v _ => sra8 v)

/-- SLL of a byte (R412). -/
def sllOp : RmwOp := rotOp (fun v _ => sll8 v)

/-- SRL of a byte (R413). -/
def srlOp : RmwOp := rotOp (fun v _ => srl8 v)

/-- RES b: no flag is written (R425). -/
def resOp (b : BitVec 3) : RmwOp := fun s v => (v &&& ~~~(bitMask b), s)

/-- SET b: no flag is written (R426). -/
def setOp (b : BitVec 3) : RmwOp := fun s v => (v ||| bitMask b, s)

/-- RLC r (R406, R404). -/
def execRlcR (r : Reg8) (s : State) : Result := rmwReg rlcOp 8 r s

/-- RLC (HL) (R406, R404). -/
def execRlcMemHL (s : State) : Result := rmwMemHL rlcOp 15 s

/-- RLC (XY+d) (R406, R404). -/
def execRlcMemXYd (p : IndexReg) (d : Byte) (s : State) : Result := rmwMemXYd rlcOp 23 p d s

/-- RLC (XY+d),r (R406, R427). -/
def execRlcMemXYdR (p : IndexReg) (d : Byte) (r : Reg8) (s : State) : Result := rmwMemXYdR rlcOp 23 p d r s

/-- RRC r (R407, R404). -/
def execRrcR (r : Reg8) (s : State) : Result := rmwReg rrcOp 8 r s

/-- RRC (HL) (R407, R404). -/
def execRrcMemHL (s : State) : Result := rmwMemHL rrcOp 15 s

/-- RRC (XY+d) (R407, R404). -/
def execRrcMemXYd (p : IndexReg) (d : Byte) (s : State) : Result := rmwMemXYd rrcOp 23 p d s

/-- RRC (XY+d),r (R407, R427). -/
def execRrcMemXYdR (p : IndexReg) (d : Byte) (r : Reg8) (s : State) : Result := rmwMemXYdR rrcOp 23 p d r s

/-- RL r (R408, R404). -/
def execRlR (r : Reg8) (s : State) : Result := rmwReg rlOp 8 r s

/-- RL (HL) (R408, R404). -/
def execRlMemHL (s : State) : Result := rmwMemHL rlOp 15 s

/-- RL (XY+d) (R408, R404). -/
def execRlMemXYd (p : IndexReg) (d : Byte) (s : State) : Result := rmwMemXYd rlOp 23 p d s

/-- RL (XY+d),r (R408, R427). -/
def execRlMemXYdR (p : IndexReg) (d : Byte) (r : Reg8) (s : State) : Result := rmwMemXYdR rlOp 23 p d r s

/-- RR r (R409, R404). -/
def execRrR (r : Reg8) (s : State) : Result := rmwReg rrOp 8 r s

/-- RR (HL) (R409, R404). -/
def execRrMemHL (s : State) : Result := rmwMemHL rrOp 15 s

/-- RR (XY+d) (R409, R404). -/
def execRrMemXYd (p : IndexReg) (d : Byte) (s : State) : Result := rmwMemXYd rrOp 23 p d s

/-- RR (XY+d),r (R409, R427). -/
def execRrMemXYdR (p : IndexReg) (d : Byte) (r : Reg8) (s : State) : Result := rmwMemXYdR rrOp 23 p d r s

/-- SLA r (R410, R404). -/
def execSlaR (r : Reg8) (s : State) : Result := rmwReg slaOp 8 r s

/-- SLA (HL) (R410, R404). -/
def execSlaMemHL (s : State) : Result := rmwMemHL slaOp 15 s

/-- SLA (XY+d) (R410, R404). -/
def execSlaMemXYd (p : IndexReg) (d : Byte) (s : State) : Result := rmwMemXYd slaOp 23 p d s

/-- SLA (XY+d),r (R410, R427). -/
def execSlaMemXYdR (p : IndexReg) (d : Byte) (r : Reg8) (s : State) : Result := rmwMemXYdR slaOp 23 p d r s

/-- SRA r (R411, R404). -/
def execSraR (r : Reg8) (s : State) : Result := rmwReg sraOp 8 r s

/-- SRA (HL) (R411, R404). -/
def execSraMemHL (s : State) : Result := rmwMemHL sraOp 15 s

/-- SRA (XY+d) (R411, R404). -/
def execSraMemXYd (p : IndexReg) (d : Byte) (s : State) : Result := rmwMemXYd sraOp 23 p d s

/-- SRA (XY+d),r (R411, R427). -/
def execSraMemXYdR (p : IndexReg) (d : Byte) (r : Reg8) (s : State) : Result := rmwMemXYdR sraOp 23 p d r s

/-- SLL r (R412, R404). -/
def execSllR (r : Reg8) (s : State) : Result := rmwReg sllOp 8 r s

/-- SLL (HL) (R412, R404). -/
def execSllMemHL (s : State) : Result := rmwMemHL sllOp 15 s

/-- SLL (XY+d) (R412, R404). -/
def execSllMemXYd (p : IndexReg) (d : Byte) (s : State) : Result := rmwMemXYd sllOp 23 p d s

/-- SLL (XY+d),r (R412, R427). -/
def execSllMemXYdR (p : IndexReg) (d : Byte) (r : Reg8) (s : State) : Result := rmwMemXYdR sllOp 23 p d r s

/-- SRL r (R413, R404). -/
def execSrlR (r : Reg8) (s : State) : Result := rmwReg srlOp 8 r s

/-- SRL (HL) (R413, R404). -/
def execSrlMemHL (s : State) : Result := rmwMemHL srlOp 15 s

/-- SRL (XY+d) (R413, R404). -/
def execSrlMemXYd (p : IndexReg) (d : Byte) (s : State) : Result := rmwMemXYd srlOp 23 p d s

/-- SRL (XY+d),r (R413, R427). -/
def execSrlMemXYdR (p : IndexReg) (d : Byte) (r : Reg8) (s : State) : Result := rmwMemXYdR srlOp 23 p d r s

/-- RES b,r (R425, R404). -/
def execResR (b : BitVec 3) (r : Reg8) (s : State) : Result := rmwReg (resOp b) 8 r s

/-- RES b,(HL) (R425, R404). -/
def execResMemHL (b : BitVec 3) (s : State) : Result := rmwMemHL (resOp b) 15 s

/-- RES b,(XY+d) (R425, R404). -/
def execResMemXYd (b : BitVec 3) (p : IndexReg) (d : Byte) (s : State) : Result := rmwMemXYd (resOp b) 23 p d s

/-- RES b,(XY+d),r (R425, R427). -/
def execResMemXYdR (b : BitVec 3) (p : IndexReg) (d : Byte) (r : Reg8) (s : State) : Result :=
  rmwMemXYdR (resOp b) 23 p d r s

/-- SET b,r (R426, R404). -/
def execSetR (b : BitVec 3) (r : Reg8) (s : State) : Result := rmwReg (setOp b) 8 r s

/-- SET b,(HL) (R426, R404). -/
def execSetMemHL (b : BitVec 3) (s : State) : Result := rmwMemHL (setOp b) 15 s

/-- SET b,(XY+d) (R426, R404). -/
def execSetMemXYd (b : BitVec 3) (p : IndexReg) (d : Byte) (s : State) : Result := rmwMemXYd (setOp b) 23 p d s

/-- SET b,(XY+d),r (R426, R427). -/
def execSetMemXYdR (b : BitVec 3) (p : IndexReg) (d : Byte) (r : Reg8) (s : State) : Result :=
  rmwMemXYdR (setOp b) 23 p d r s

/-- BIT b,r: Y and X from the register (R420). -/
def execBitR (b : BitVec 3) (r : Reg8) (s : State) : Result :=
  let v := s.reg8 r
  .next ((s.writeFlags (bitFlags b v (v.getLsbD 5) (v.getLsbD 3) s.f)).took 8)

/-- BIT b,(HL): Y and X from WZ (R421). -/
def execBitMemHL (b : BitVec 3) (s : State) : Result :=
  let v := s.memRead s.hl
  .next ((v.2.writeFlags (bitFlags b v.1 (s.cpu.wz.getLsbD 13) (s.cpu.wz.getLsbD 11) s.f)).took 12)

/-- BIT b,(XY+d): Y and X from the effective address; the opcode field z does not matter (R422). -/
def execBitMemXYd (b : BitVec 3) (p : IndexReg) (d : Byte) (_z : BitVec 3) (s : State) : Result :=
  let v := s.readDisp p d
  let ea := s.dispAddr p d
  .next ((v.2.writeFlags (bitFlags b v.1 (ea.getLsbD 13) (ea.getLsbD 11) s.f)).took 20)

/-- A digit rotate: the byte at HL replaced, A and WZ written (R415, R416). `mem` and `acc` give the new byte and the new A from
the old A and the byte read. -/
def State.rotateDigits (s : State) (mem acc : Byte → Byte → Byte) : State :=
  let t := s.memRead s.hl
  let a := acc s.a t.1
  let u := ((t.2.memWrite s.hl (mem s.a t.1)).setA a).setWz (s.hl + 1)
  u.writeFlags (szxyp a false (flagC s.f))

/-- RLD (R415). -/
def execRld (s : State) : Result :=
  .next ((s.rotateDigits (fun a t => (t <<< 4) ||| (a &&& 0x0F)) (fun a t => (a &&& 0xF0) ||| (t >>> 4))).took 18)

/-- RRD (R416). -/
def execRrd (s : State) : Result :=
  .next ((s.rotateDigits (fun a t => (a <<< 4) ||| (t >>> 4)) (fun a t => (a &&& 0xF0) ||| (t &&& 0x0F))).took 18)

end Sys2Proof.Machine
end

