-- ==== Sys2Proof/Machine/Dispatch.lean ====
section
/-! DEFINITION. exec: one arm per instruction, each one direct call of its meaning. -/

namespace Sys2Proof.Machine

def exec (i : Instr) (s : State) : Host.Outcome State Fault Refusal :=
  match i with
  | .nop => Sys2Proof.Machine.execNop s
  | .ldRpNn rp nn => Sys2Proof.Machine.execLdRpNn rp nn s
  | .ldMemBCA => Sys2Proof.Machine.execLdMemBCA s
  | .ldMemDEA => Sys2Proof.Machine.execLdMemDEA s
  | .ldAMemBC => Sys2Proof.Machine.execLdAMemBC s
  | .ldAMemDE => Sys2Proof.Machine.execLdAMemDE s
  | .incRp rp => Sys2Proof.Machine.execIncRp rp s
  | .decRp rp => Sys2Proof.Machine.execDecRp rp s
  | .incR r => Sys2Proof.Machine.execIncR r s
  | .incMemHL => Sys2Proof.Machine.execIncMemHL s
  | .decR r => Sys2Proof.Machine.execDecR r s
  | .decMemHL => Sys2Proof.Machine.execDecMemHL s
  | .ldRN r n => Sys2Proof.Machine.execLdRN r n s
  | .ldMemHLN n => Sys2Proof.Machine.execLdMemHLN n s
  | .rlca => Sys2Proof.Machine.execRlca s
  | .rrca => Sys2Proof.Machine.execRrca s
  | .rla => Sys2Proof.Machine.execRla s
  | .rra => Sys2Proof.Machine.execRra s
  | .daa => Sys2Proof.Machine.execDaa s
  | .cpl => Sys2Proof.Machine.execCpl s
  | .scf => Sys2Proof.Machine.execScf s
  | .ccf => Sys2Proof.Machine.execCcf s
  | .exAFAF => Sys2Proof.Machine.execExAFAF s
  | .addHLRp rp => Sys2Proof.Machine.execAddHLRp rp s
  | .djnz e => Sys2Proof.Machine.execDjnz e s
  | .jr e => Sys2Proof.Machine.execJr e s
  | .jrCc cc e => Sys2Proof.Machine.execJrCc cc e s
  | .ldMemNnHL nn => Sys2Proof.Machine.execLdMemNnHL nn s
  | .ldHLMemNn nn => Sys2Proof.Machine.execLdHLMemNn nn s
  | .ldMemNnA nn => Sys2Proof.Machine.execLdMemNnA nn s
  | .ldAMemNn nn => Sys2Proof.Machine.execLdAMemNn nn s
  | .ldRR dst src => Sys2Proof.Machine.execLdRR dst src s
  | .ldRMemHL r => Sys2Proof.Machine.execLdRMemHL r s
  | .ldMemHLR r => Sys2Proof.Machine.execLdMemHLR r s
  | .halt => Sys2Proof.Machine.execHalt s
  | .addAR r => Sys2Proof.Machine.execAddAR r s
  | .addAMemHL => Sys2Proof.Machine.execAddAMemHL s
  | .addAN n => Sys2Proof.Machine.execAddAN n s
  | .adcAR r => Sys2Proof.Machine.execAdcAR r s
  | .adcAMemHL => Sys2Proof.Machine.execAdcAMemHL s
  | .adcAN n => Sys2Proof.Machine.execAdcAN n s
  | .subR r => Sys2Proof.Machine.execSubR r s
  | .subMemHL => Sys2Proof.Machine.execSubMemHL s
  | .subN n => Sys2Proof.Machine.execSubN n s
  | .sbcAR r => Sys2Proof.Machine.execSbcAR r s
  | .sbcAMemHL => Sys2Proof.Machine.execSbcAMemHL s
  | .sbcAN n => Sys2Proof.Machine.execSbcAN n s
  | .andR r => Sys2Proof.Machine.execAndR r s
  | .andMemHL => Sys2Proof.Machine.execAndMemHL s
  | .andN n => Sys2Proof.Machine.execAndN n s
  | .xorR r => Sys2Proof.Machine.execXorR r s
  | .xorMemHL => Sys2Proof.Machine.execXorMemHL s
  | .xorN n => Sys2Proof.Machine.execXorN n s
  | .orR r => Sys2Proof.Machine.execOrR r s
  | .orMemHL => Sys2Proof.Machine.execOrMemHL s
  | .orN n => Sys2Proof.Machine.execOrN n s
  | .cpR r => Sys2Proof.Machine.execCpR r s
  | .cpMemHL => Sys2Proof.Machine.execCpMemHL s
  | .cpN n => Sys2Proof.Machine.execCpN n s
  | .retCc cc => Sys2Proof.Machine.execRetCc cc s
  | .popRp2 rp => Sys2Proof.Machine.execPopRp2 rp s
  | .jpCc cc nn => Sys2Proof.Machine.execJpCc cc nn s
  | .jp nn => Sys2Proof.Machine.execJp nn s
  | .callCc cc nn => Sys2Proof.Machine.execCallCc cc nn s
  | .pushRp2 rp => Sys2Proof.Machine.execPushRp2 rp s
  | .rst y => Sys2Proof.Machine.execRst y s
  | .ret => Sys2Proof.Machine.execRet s
  | .call nn => Sys2Proof.Machine.execCall nn s
  | .outNA n => Sys2Proof.Machine.execOutNA n s
  | .exx => Sys2Proof.Machine.execExx s
  | .inAN n => Sys2Proof.Machine.execInAN n s
  | .exMemSPHL => Sys2Proof.Machine.execExMemSPHL s
  | .jpHL => Sys2Proof.Machine.execJpHL s
  | .exDEHL => Sys2Proof.Machine.execExDEHL s
  | .di => Sys2Proof.Machine.execDi s
  | .ldSPHL => Sys2Proof.Machine.execLdSPHL s
  | .ei => Sys2Proof.Machine.execEi s
  | .rlcR r => Sys2Proof.Machine.execRlcR r s
  | .rlcMemHL => Sys2Proof.Machine.execRlcMemHL s
  | .rrcR r => Sys2Proof.Machine.execRrcR r s
  | .rrcMemHL => Sys2Proof.Machine.execRrcMemHL s
  | .rlR r => Sys2Proof.Machine.execRlR r s
  | .rlMemHL => Sys2Proof.Machine.execRlMemHL s
  | .rrR r => Sys2Proof.Machine.execRrR r s
  | .rrMemHL => Sys2Proof.Machine.execRrMemHL s
  | .slaR r => Sys2Proof.Machine.execSlaR r s
  | .slaMemHL => Sys2Proof.Machine.execSlaMemHL s
  | .sraR r => Sys2Proof.Machine.execSraR r s
  | .sraMemHL => Sys2Proof.Machine.execSraMemHL s
  | .sllR r => Sys2Proof.Machine.execSllR r s
  | .sllMemHL => Sys2Proof.Machine.execSllMemHL s
  | .srlR r => Sys2Proof.Machine.execSrlR r s
  | .srlMemHL => Sys2Proof.Machine.execSrlMemHL s
  | .bitR b r => Sys2Proof.Machine.execBitR b r s
  | .bitMemHL b => Sys2Proof.Machine.execBitMemHL b s
  | .resR b r => Sys2Proof.Machine.execResR b r s
  | .resMemHL b => Sys2Proof.Machine.execResMemHL b s
  | .setR b r => Sys2Proof.Machine.execSetR b r s
  | .setMemHL b => Sys2Proof.Machine.execSetMemHL b s
  | .noni op => Sys2Proof.Machine.execNoni op s
  | .inRC r => Sys2Proof.Machine.execInRC r s
  | .inC => Sys2Proof.Machine.execInC s
  | .outCR r => Sys2Proof.Machine.execOutCR r s
  | .outC0 => Sys2Proof.Machine.execOutC0 s
  | .sbcHLRp rp => Sys2Proof.Machine.execSbcHLRp rp s
  | .adcHLRp rp => Sys2Proof.Machine.execAdcHLRp rp s
  | .ldMemNnRp nn rp => Sys2Proof.Machine.execLdMemNnRp nn rp s
  | .ldRpMemNn rp nn => Sys2Proof.Machine.execLdRpMemNn rp nn s
  | .neg y => Sys2Proof.Machine.execNeg y s
  | .retn y => Sys2Proof.Machine.execRetn y s
  | .reti => Sys2Proof.Machine.execReti s
  | .im y => Sys2Proof.Machine.execIm y s
  | .ldIA => Sys2Proof.Machine.execLdIA s
  | .ldRA => Sys2Proof.Machine.execLdRA s
  | .ldAI => Sys2Proof.Machine.execLdAI s
  | .ldAR => Sys2Proof.Machine.execLdAR s
  | .rrd => Sys2Proof.Machine.execRrd s
  | .rld => Sys2Proof.Machine.execRld s
  | .ldi => Sys2Proof.Machine.execLdi s
  | .cpi => Sys2Proof.Machine.execCpi s
  | .ini => Sys2Proof.Machine.execIni s
  | .outi => Sys2Proof.Machine.execOuti s
  | .ldd => Sys2Proof.Machine.execLdd s
  | .cpd => Sys2Proof.Machine.execCpd s
  | .ind => Sys2Proof.Machine.execInd s
  | .outd => Sys2Proof.Machine.execOutd s
  | .ldir => Sys2Proof.Machine.execLdir s
  | .cpir => Sys2Proof.Machine.execCpir s
  | .inir => Sys2Proof.Machine.execInir s
  | .otir => Sys2Proof.Machine.execOtir s
  | .lddr => Sys2Proof.Machine.execLddr s
  | .cpdr => Sys2Proof.Machine.execCpdr s
  | .indr => Sys2Proof.Machine.execIndr s
  | .otdr => Sys2Proof.Machine.execOtdr s
  | .prefixIgnored p => Sys2Proof.Machine.execPrefixIgnored p s
  | .addXYRp p rp => Sys2Proof.Machine.execAddXYRp p rp s
  | .ldXYNn p nn => Sys2Proof.Machine.execLdXYNn p nn s
  | .ldMemNnXY nn p => Sys2Proof.Machine.execLdMemNnXY nn p s
  | .incXY p => Sys2Proof.Machine.execIncXY p s
  | .incXYH p => Sys2Proof.Machine.execIncXYH p s
  | .decXYH p => Sys2Proof.Machine.execDecXYH p s
  | .ldXYHN p n => Sys2Proof.Machine.execLdXYHN p n s
  | .ldXYMemNn p nn => Sys2Proof.Machine.execLdXYMemNn p nn s
  | .decXY p => Sys2Proof.Machine.execDecXY p s
  | .incXYL p => Sys2Proof.Machine.execIncXYL p s
  | .decXYL p => Sys2Proof.Machine.execDecXYL p s
  | .ldXYLN p n => Sys2Proof.Machine.execLdXYLN p n s
  | .incMemXYd p d => Sys2Proof.Machine.execIncMemXYd p d s
  | .decMemXYd p d => Sys2Proof.Machine.execDecMemXYd p d s
  | .ldMemXYdN p d n => Sys2Proof.Machine.execLdMemXYdN p d n s
  | .ldRXYH r p => Sys2Proof.Machine.execLdRXYH r p s
  | .ldRXYL r p => Sys2Proof.Machine.execLdRXYL r p s
  | .ldXYHR p r => Sys2Proof.Machine.execLdXYHR p r s
  | .ldXYLR p r => Sys2Proof.Machine.execLdXYLR p r s
  | .ldRMemXYd r p d => Sys2Proof.Machine.execLdRMemXYd r p d s
  | .ldMemXYdR p d r => Sys2Proof.Machine.execLdMemXYdR p d r s
  | .addAXYH p => Sys2Proof.Machine.execAddAXYH p s
  | .addAXYL p => Sys2Proof.Machine.execAddAXYL p s
  | .addAMemXYd p d => Sys2Proof.Machine.execAddAMemXYd p d s
  | .adcAXYH p => Sys2Proof.Machine.execAdcAXYH p s
  | .adcAXYL p => Sys2Proof.Machine.execAdcAXYL p s
  | .adcAMemXYd p d => Sys2Proof.Machine.execAdcAMemXYd p d s
  | .subXYH p => Sys2Proof.Machine.execSubXYH p s
  | .subXYL p => Sys2Proof.Machine.execSubXYL p s
  | .subMemXYd p d => Sys2Proof.Machine.execSubMemXYd p d s
  | .sbcAXYH p => Sys2Proof.Machine.execSbcAXYH p s
  | .sbcAXYL p => Sys2Proof.Machine.execSbcAXYL p s
  | .sbcAMemXYd p d => Sys2Proof.Machine.execSbcAMemXYd p d s
  | .andXYH p => Sys2Proof.Machine.execAndXYH p s
  | .andXYL p => Sys2Proof.Machine.execAndXYL p s
  | .andMemXYd p d => Sys2Proof.Machine.execAndMemXYd p d s
  | .xorXYH p => Sys2Proof.Machine.execXorXYH p s
  | .xorXYL p => Sys2Proof.Machine.execXorXYL p s
  | .xorMemXYd p d => Sys2Proof.Machine.execXorMemXYd p d s
  | .orXYH p => Sys2Proof.Machine.execOrXYH p s
  | .orXYL p => Sys2Proof.Machine.execOrXYL p s
  | .orMemXYd p d => Sys2Proof.Machine.execOrMemXYd p d s
  | .cpXYH p => Sys2Proof.Machine.execCpXYH p s
  | .cpXYL p => Sys2Proof.Machine.execCpXYL p s
  | .cpMemXYd p d => Sys2Proof.Machine.execCpMemXYd p d s
  | .popXY p => Sys2Proof.Machine.execPopXY p s
  | .exMemSPXY p => Sys2Proof.Machine.execExMemSPXY p s
  | .pushXY p => Sys2Proof.Machine.execPushXY p s
  | .jpXY p => Sys2Proof.Machine.execJpXY p s
  | .ldSPXY p => Sys2Proof.Machine.execLdSPXY p s
  | .rlcMemXYd p d => Sys2Proof.Machine.execRlcMemXYd p d s
  | .rlcMemXYdR p d r => Sys2Proof.Machine.execRlcMemXYdR p d r s
  | .rrcMemXYd p d => Sys2Proof.Machine.execRrcMemXYd p d s
  | .rrcMemXYdR p d r => Sys2Proof.Machine.execRrcMemXYdR p d r s
  | .rlMemXYd p d => Sys2Proof.Machine.execRlMemXYd p d s
  | .rlMemXYdR p d r => Sys2Proof.Machine.execRlMemXYdR p d r s
  | .rrMemXYd p d => Sys2Proof.Machine.execRrMemXYd p d s
  | .rrMemXYdR p d r => Sys2Proof.Machine.execRrMemXYdR p d r s
  | .slaMemXYd p d => Sys2Proof.Machine.execSlaMemXYd p d s
  | .slaMemXYdR p d r => Sys2Proof.Machine.execSlaMemXYdR p d r s
  | .sraMemXYd p d => Sys2Proof.Machine.execSraMemXYd p d s
  | .sraMemXYdR p d r => Sys2Proof.Machine.execSraMemXYdR p d r s
  | .sllMemXYd p d => Sys2Proof.Machine.execSllMemXYd p d s
  | .sllMemXYdR p d r => Sys2Proof.Machine.execSllMemXYdR p d r s
  | .srlMemXYd p d => Sys2Proof.Machine.execSrlMemXYd p d s
  | .srlMemXYdR p d r => Sys2Proof.Machine.execSrlMemXYdR p d r s
  | .bitMemXYd b p d z => Sys2Proof.Machine.execBitMemXYd b p d z s
  | .resMemXYd b p d => Sys2Proof.Machine.execResMemXYd b p d s
  | .resMemXYdR b p d r => Sys2Proof.Machine.execResMemXYdR b p d r s
  | .setMemXYd b p d => Sys2Proof.Machine.execSetMemXYd b p d s
  | .setMemXYdR b p d r => Sys2Proof.Machine.execSetMemXYdR b p d r s

end Sys2Proof.Machine
end

