-- ==== Sys2Proof/Machine/Step.lean ====
section
/-! DEFINITION. One CPU step (60_exceptions.md R600), one machine step (R621), and the host's placing of an instruction. -/

namespace Sys2Proof.Machine

/-- `cpu_step()`: the step that the instruction boundary chooses (60_exceptions.md R600). -/
def cpuStep (s : State) : Host.Outcome State Fault Refusal :=
  match s.stepKind with
  | .nmi => .next s.acceptNmi
  | .int => s.acceptInt
  | .idle => .next s.haltedIdle
  | .instruction => exec s.nextInstr (s.fetched s.nextInstr)

/-- The end of a machine step: the devices ticked by the CPU step's cycles (60_exceptions.md R621). It is refused where the step has
reached a video behaviour that VIDEO_DEV leaves undefined (R607). -/
def State.finishStep (s : State) : Host.Outcome State Fault Refusal :=
  if s.tickDevices.io.video.undef then .refused .videoUndefined else .next s.tickDevices

/-- The machine step: a CPU step, then the devices ticked by its cycles (60_exceptions.md R621). It is refused outside the
Running state (R654) and with wait states (R607). -/
def step (s : State) : Host.Outcome State Fault Refusal :=
  if s.life ≠ .running then .refused .callNotAdmitted
  else if s.cfg.waitStates ≠ 0 then .refused .waitStates
  else
    match cpuStep s with
    | .next t => t.finishStep
    | .fault r => .fault r
    | .refused r => .refused r

/-- The instruction whose bits are `w` stored where the next step fetches it: at PC, in the RAM store or in ROM_IMAGE as the
map has it there, four bytes in all; the machine running, not halted and with no interrupt to take first (log 3). -/
def State.withFetchWord (s : State) (nbits w : Nat) : State :=
  State.placeBytes (tableWordBytes nbits w) s.cpu.pc s.readyToFetch

end Sys2Proof.Machine
end

