-- ==== Sys2Proof/Machine/ConfigCheck.lean ====
section
/-! DEFINITION. The check of a configuration that init makes (20_memory.md R63, 60_exceptions.md R650), and which stores, bank
selections and devices belong to a configuration (10_state.md R39 to R44). -/

namespace Sys2Proof

/-- The regions of a table from an address on are in order, each of length at least 1, with no gap and no overlap, and end at
`stop` (20_memory.md R63). -/
def regionsCover : List Region → Nat → Nat → Bool
  | [], start, stop => start == stop
  | g :: rest, start, stop => g.start == start && decide (0 < g.length) && regionsCover rest (start + g.length) stop

/-- A backing of IO_MAP: no RAM or ROM kind (20_memory.md R75). -/
def Backing.ioKind : Backing → Bool
  | .ram _ | .rom _ => false
  | .io _ | .unmapped => true

/-- A backing of a bank descriptor: RAM or ROM (20_memory.md R68). -/
def Backing.bankKind : Backing → Bool
  | .ram _ | .rom _ => true
  | .io _ | .unmapped => false

/-- A device region stays within the device's registers (60_exceptions.md R630; log 17). -/
def deviceFits (cfg : Config) (length : Nat) : Backing → Bool
  | .io .kbd => decide (length ≤ cfg.kbdRows)
  | .io .pio => decide (length ≤ cfg.pioOutPorts.length) && decide (length ≤ cfg.pioInPorts.length)
  | .io (.video reg) => decide (reg < 2)
  | .ram _ | .rom _ | .unmapped => true

/-- Every backing with its length: the regions of MEM_MAP, and each backing of each bank descriptor. -/
def Config.backings (cfg : Config) : List (Backing × Nat) :=
  cfg.memMap.map (fun g => (g.backing, g.length)) ++
    cfg.banks.flatMap (fun bank => bank.backings.map (fun bk => (bk, bank.length)))

/-- The ROM backings: offset and length. -/
def Config.romParts (cfg : Config) : List (Nat × Nat) :=
  cfg.backings.filterMap (fun part => match part.1 with
    | .rom off => some (off, part.2)
    | _ => none)

/-- The RAM backings: base key and length. -/
def Config.ramParts (cfg : Config) : List (Nat × Nat) :=
  cfg.backings.filterMap (fun part => match part.1 with
    | .ram base => some (base, part.2)
    | _ => none)

/-- Two stretches of keys share none. -/
def apart (p q : Nat × Nat) : Bool := decide (p.1 + p.2 ≤ q.1) || decide (q.1 + q.2 ≤ p.1)

/-- No two of the stretches share a key. -/
def allApart : List (Nat × Nat) → Bool
  | [] => true
  | p :: rest => rest.all (apart p) && allApart rest

/-- The given ROM bytes are in rising order from an offset on, within the size. -/
def givenInOrder (size : Nat) : List Host.Cell → Nat → Bool
  | [], _ => true
  | cell :: rest, low => decide (low ≤ cell.1) && decide (cell.1 < size) && givenInOrder size rest (cell.1 + 1)

/-- MEM_MAP is well formed (20_memory.md R63). -/
def Config.memMapOk (cfg : Config) : Bool :=
  regionsCover cfg.memMap 0 0x10000 && cfg.memMap.all (fun g => deviceFits cfg g.length g.backing)

/-- IO_MAP is well formed (20_memory.md R63, R74, R75). -/
def Config.ioMapOk (cfg : Config) : Bool :=
  regionsCover cfg.ioMap 0 (cfg.ioDecodeMask.toNat + 1) &&
    cfg.ioMap.all (fun g => g.backing.ioKind && deviceFits cfg g.length g.backing)

/-- ROM_IMAGE has the total length of the ROM regions, and holds each of them (20_memory.md R63, 60_exceptions.md R650). -/
def Config.romOk (cfg : Config) : Bool :=
  cfg.rom.size == (cfg.romParts.map (fun part => part.2)).sum &&
    cfg.romParts.all (fun part => decide (part.1 + part.2 ≤ cfg.rom.size)) && givenInOrder cfg.rom.size cfg.rom.given 0

/-- Every RAM region has a byte array of its own (10_state.md R39). -/
def Config.ramOk (cfg : Config) : Bool := allApart cfg.ramParts

/-- The bank descriptors lie in the space, apart from each other, each with a backing to select (20_memory.md R68; DEDUCED, log 17).
The select register is not checked: one that no device has is accepted, and nothing ever selects by it (DESIGN CHOICE, log 26). -/
def Config.banksOk (cfg : Config) : Bool :=
  cfg.banks.all (fun bank => decide (0 < bank.length) && decide (bank.start + bank.length ≤ 0x10000) &&
    !bank.backings.isEmpty && bank.backings.all Backing.bankKind) &&
    allApart (cfg.banks.map (fun bank => (bank.start, bank.length)))

/-- Every other parameter is in range (60_exceptions.md R650). The ranges are a reading (DEDUCED, log 17); PIO_OUT_PORTS and
PIO_IN_PORTS have none here: any port numbers are accepted, whatever ports IO_MAP gives the PIO (DESIGN CHOICE, log 25). -/
def Config.paramsOk (cfg : Config) : Bool :=
  cfg.waitStates == 0 && cfg.kbdActiveLow && decide (0 < cfg.linesPerFrame) && decide (0 < cfg.cyclesPerLine) &&
    decide (0 < cfg.kbdRows) && decide (0 < cfg.kbdCols) && decide (cfg.kbdCols ≤ 8) &&
    cfg.keymap.all (fun k => decide (k.row < cfg.kbdRows) && decide (k.col < cfg.kbdCols))

/-- What init's check finds wrong with a configuration, if anything (20_memory.md R63, 60_exceptions.md R650). -/
def Config.check (cfg : Config) : Option Machine.ConfigError :=
  if !cfg.memMapOk then some .memMap
  else if !cfg.ioMapOk then some .ioMap
  else if !cfg.romOk then some .romSize
  else if !cfg.ramOk then some .ramOverlap
  else if !cfg.banksOk then some .banks
  else if !cfg.paramsOk then some .parameter
  else none

/-- A RAM key belongs to a backing of the configuration. -/
def Config.hasRamKey (cfg : Config) (key : Nat) : Bool :=
  cfg.ramParts.any (fun part => decide (part.1 ≤ key) && decide (key < part.1 + part.2))

end Sys2Proof

namespace Sys2Proof.Machine

/-- A RAM store of the configuration: canonical, and only keys of its RAM backings. -/
def ramStoreOk (cfg : Config) (m : Memory) : Bool := m.wf && m.all (fun cell => cfg.hasRamKey cell.1)

/-- The bank selection of a configuration: one index per descriptor, each of a backing it has. -/
def bankSelOk : List Bank → List Nat → Bool
  | [], [] => true
  | bank :: banks, j :: js => decide (j < bank.backings.length) && bankSelOk banks js
  | _, _ => false

/-- A keyboard of the configuration (10_state.md R41). -/
def Keyboard.ok (cfg : Config) (k : Keyboard) : Bool :=
  k.matrix.length == cfg.kbdRows && decide (k.selRow < cfg.kbdRows) && k.matrix.all (fun row => decide (row.toNat < 2 ^ cfg.kbdCols))

/-- The devices of a configuration, each counter in its range (10_state.md R41 to R44), and no undefined video behaviour reached
(log 24). -/
def IoDevices.ok (cfg : Config) (io : IoDevices) : Bool :=
  io.kbd.ok cfg && decide (io.timer.count < cfg.timerPeriod) && decide (io.video.line < cfg.linesPerFrame) &&
    decide (io.video.dot < cfg.cyclesPerLine) && io.pio.outLatch.length == cfg.pioOutPorts.length &&
    !io.video.undef

/-- The timer and the beam keep the same time: "both counters start at 0 and advance by the same cycles" (60_exceptions.md R626). -/
def IoDevices.together (cfg : Config) (io : IoDevices) : Bool :=
  io.timer.count == io.video.line * cfg.cyclesPerLine + io.video.dot

/-- A CPU that a machine can have: IFF1 set only under IFF2 (10_state.md R30), at most one inhibit bit and none while halted
(R33, R34). -/
def Cpu.ok (c : Cpu) : Bool :=
  (!c.iff1 || c.iff2) && !(c.eiInhibit && c.prefixInhibit) && (!c.halted || !c.eiInhibit && !c.prefixInhibit)

/-- The memory of a configuration (10_state.md R39). -/
def MemState.ok (cfg : Config) (m : MemState) : Bool := ramStoreOk cfg m.ram && bankSelOk cfg.banks m.bankSel

end Sys2Proof.Machine
end

