-- ==== Sys2Proof/Machine/Orchestrator.lean ====
section
/-! DEFINITION. The orchestrator's calls (60_exceptions.md R650 to R659): init, exec, discard,
key events, display_info and snapshots. A call is made between steps. -/

namespace Sys2Proof.Machine

/-- `init(config)` on the machine `s`: ConfigError, or the machine in its reset state, whatever it was before; refused once it is
discarded (60_exceptions.md R650, R654). `dr` holds reset's draws (70_reset_and_hazards.md R700); the count of draws, the model's
own, goes on, so that a draw after a second init is a new one (log 8). A re-init that ends in ConfigError leaves no state: the
machine that was running does not go on (R650 says only that no machine is created; DESIGN CHOICE, log 23). -/
def initMachine (s : State) (cfg : Config) (dr : ResetDraws) : Result :=
  if s.life = .discarded then .refused .callNotAdmitted
  else
    match cfg.check with
    | some reason => .fault (.configError reason)
    | none => .next { State.initial cfg dr with draws := s.draws }

/-- The cycle budget of the total time: floor(elapsed_us * CPU_FREQ_HZ / 10^6) (60_exceptions.md R651). -/
def State.target (s : State) : Nat := s.clock.elapsedUs * s.cfg.cpuFreqHz / 1000000

/-- The loop of exec: machine steps while the executed count is below the target, at most `fuel` of them. -/
def runTo (target : Nat) : Nat → State → Result
  | 0, s => .next s
  | fuel + 1, s =>
    if s.clock.executed < target then
      match step s with
      | .next t => runTo target fuel t
      | .fault r => .fault r
      | .refused r => .refused r
    else .next s

/-- `exec(elapsed_us)`: the cycles executed by the call, and the machine after it (60_exceptions.md R651). Every step takes a
cycle or more, so the loop needs no more steps than there are cycles to go. -/
def execFor (s : State) (elapsedUs : Nat) : Host.Outcome (Nat × State) Fault Refusal :=
  if s.life = .running then
    let t := { s with clock := { s.clock with elapsedUs := s.clock.elapsedUs + elapsedUs } }
    match runTo t.target (t.target - t.clock.executed) t with
    | .next u => .next (u.clock.executed - s.clock.executed, u)
    | .fault r => .fault r
    | .refused r => .refused r
  else .refused .callNotAdmitted

/-- `discard()` (60_exceptions.md R653, R654). -/
def discard (s : State) : Result :=
  if s.life = .running then .next { s with life := .discarded } else .refused .callNotAdmitted

/-- KEYMAP(code) (60_exceptions.md R632). -/
def keyPosOf (cfg : Config) (code : Nat) : Option KeyPos := cfg.keymap.find? (fun k => k.code == code)

/-- The matrix with the bit of one key set or cleared. -/
def Keyboard.hold (k : Keyboard) (pos : KeyPos) (down : Bool) : Keyboard :=
  let row := k.matrix.getD pos.row 0
  let bit : Byte := 1#8 <<< pos.col
  { k with matrix := k.matrix.set pos.row (if down then row ||| bit else row &&& ~~~bit) }

/-- A key event; a code without a place changes nothing (60_exceptions.md R632). -/
def keyEvent (s : State) (code : Nat) (down : Bool) : Result :=
  if s.life = .running then
    match keyPosOf s.cfg code with
    | some pos => .next (s.setKbd (s.io.kbd.hold pos down))
    | none => .next s
  else .refused .callNotAdmitted

/-- `key_down(code)` (60_exceptions.md R632). -/
def keyDown (s : State) (code : Nat) : Result := keyEvent s code true

/-- `key_up(code)` (60_exceptions.md R632). -/
def keyUp (s : State) (code : Nat) : Result := keyEvent s code false

/-- `display_info()`: what it returns; it changes no state (60_exceptions.md R643, R654). -/
def displayInfo (s : State) : Host.Outcome DisplayInfo Fault Refusal :=
  if s.life ≠ .running then .refused .callNotAdmitted
  else if s.cfg.videoUndefined.contains .geometry then .refused .videoUndefined
  else .next (Config.videoGeometry s.io.video.regs)

/-- The state that the body of a snapshot record determines (60_exceptions.md R656). -/
structure SnapshotBody where
  cpu : Cpu
  mem : MemState
  io : IoDevices
  deriving DecidableEq, Repr

/-- A snapshot record: its header and its body (60_exceptions.md R656). `origin` is the model's own (log 10) and no byte of the record:
what the save that produced it saved, and the configuration it saved from; none for a record that no save produced. What happens
to the record after its save changes header and body, not the origin. -/
structure Snapshot where
  version : Nat
  size : Nat
  body : SnapshotBody
  origin : Option (Config × SnapshotBody)
  deriving DecidableEq, Repr

/-- What a snapshot of the machine holds: CPU, RAM and bank selection, devices (60_exceptions.md R656). -/
def State.snapshotBody (s : State) : SnapshotBody := ⟨s.cpu, s.mem, s.io⟩

/-- `save_snapshot()`; it changes no state (60_exceptions.md R656). -/
def saveSnapshot (s : State) : Host.Outcome Snapshot Fault Refusal :=
  if s.life = .running then
    .next ⟨Config.snapshotVersion, Config.snapshotSize, s.snapshotBody, some (s.cfg, s.snapshotBody)⟩
  else .refused .callNotAdmitted

/-- A body is one that a machine of the configuration can have: what every state keeps of the CPU, the memory and the devices
(10_state.md R30 to R44, 60_exceptions.md R626). -/
def SnapshotBody.ok (cfg : Config) (b : SnapshotBody) : Bool :=
  b.cpu.ok && b.mem.ok cfg && b.io.ok cfg && b.io.together cfg

/-- A record that a save of a machine of this configuration produced, unchanged since (60_exceptions.md R607, R657). -/
def Snapshot.saved (cfg : Config) (rec : Snapshot) : Bool := rec.origin == some (cfg, rec.body) && rec.body.ok cfg

/-- `load_snapshot(record)`: false with the state unmodified where the header does not match; else true with CPU, RAM, banks and
devices replaced, FrameClock and Lifecycle kept. A record with a matching header that no save of a machine of this configuration
produced is refused (60_exceptions.md R607, R657; log 10). -/
def loadSnapshot (s : State) (rec : Snapshot) : Host.Outcome (Bool × State) Fault Refusal :=
  if s.life ≠ .running then .refused .callNotAdmitted
  else if rec.version ≠ Config.snapshotVersion ∨ rec.size ≠ Config.snapshotSize then .next (false, s)
  else if rec.saved s.cfg then .next (true, { s with cpu := rec.body.cpu, mem := rec.body.mem, io := rec.body.io })
  else .refused .snapshotNotSaved

end Sys2Proof.Machine
end

