-- ==== Sys2Proof/OpcodeTable.lean ====
section
/-! DEFINITION. spec/opcode_table.json as data (30_encoding.md R115, R117): each row with its match and mask bytes, its length and
its cycle counts; and the name and cycles of each instruction in it. The decoder and the meanings do not use it: statements compare them
with it. -/

namespace Sys2Proof

/-- A row of spec/opcode_table.json: its opcode bytes as (mask, match) pairs in instruction order, its length in bytes, and its
cycle counts (taken and not taken, or repeat and last, where there are two). -/
structure OpcodeRow where
  mnemonic : String
  bytes : List (Byte × Byte)
  length : Nat
  cycles : List Nat
  deriving DecidableEq, Repr

/-- The rows of the unprefixed map (30_encoding.md R105). -/
def OpcodeRow.main1 : List OpcodeRow :=
  [⟨"NOP", [(0xFF, 0x00)], 1, [4]⟩,
   ⟨"LD_rp_nn", [(0xCF, 0x01)], 3, [10]⟩,
   ⟨"LD__BC__A", [(0xFF, 0x02)], 1, [7]⟩,
   ⟨"LD__DE__A", [(0xFF, 0x12)], 1, [7]⟩,
   ⟨"LD_A__BC", [(0xFF, 0x0A)], 1, [7]⟩,
   ⟨"LD_A__DE", [(0xFF, 0x1A)], 1, [7]⟩,
   ⟨"INC_rp", [(0xCF, 0x03)], 1, [6]⟩,
   ⟨"DEC_rp", [(0xCF, 0x0B)], 1, [6]⟩,
   ⟨"INC_r", [(0xC7, 0x04)], 1, [4]⟩,
   ⟨"INC__HL", [(0xFF, 0x34)], 1, [11]⟩,
   ⟨"DEC_r", [(0xC7, 0x05)], 1, [4]⟩,
   ⟨"DEC__HL", [(0xFF, 0x35)], 1, [11]⟩,
   ⟨"LD_r_n", [(0xC7, 0x06)], 2, [7]⟩,
   ⟨"LD__HL__n", [(0xFF, 0x36)], 2, [10]⟩,
   ⟨"RLCA", [(0xFF, 0x07)], 1, [4]⟩,
   ⟨"RRCA", [(0xFF, 0x0F)], 1, [4]⟩,
   ⟨"RLA", [(0xFF, 0x17)], 1, [4]⟩,
   ⟨"RRA", [(0xFF, 0x1F)], 1, [4]⟩,
   ⟨"DAA", [(0xFF, 0x27)], 1, [4]⟩,
   ⟨"CPL", [(0xFF, 0x2F)], 1, [4]⟩,
   ⟨"SCF", [(0xFF, 0x37)], 1, [4]⟩,
   ⟨"CCF", [(0xFF, 0x3F)], 1, [4]⟩,
   ⟨"EX_AF_AF", [(0xFF, 0x08)], 1, [4]⟩,
   ⟨"ADD_HL_rp", [(0xCF, 0x09)], 1, [11]⟩,
   ⟨"DJNZ_e", [(0xFF, 0x10)], 2, [13, 8]⟩,
   ⟨"JR_e", [(0xFF, 0x18)], 2, [12]⟩,
   ⟨"JR_cc_e", [(0xE7, 0x20)], 2, [12, 7]⟩,
   ⟨"LD__nn__HL", [(0xFF, 0x22)], 3, [16]⟩,
   ⟨"LD_HL__nn", [(0xFF, 0x2A)], 3, [16]⟩,
   ⟨"LD__nn__A", [(0xFF, 0x32)], 3, [13]⟩]

/-- The rows of the unprefixed map (30_encoding.md R105). -/
def OpcodeRow.main2 : List OpcodeRow :=
  [⟨"LD_A__nn", [(0xFF, 0x3A)], 3, [13]⟩,
   ⟨"LD_r_r", [(0xC0, 0x40)], 1, [4]⟩,
   ⟨"LD_r__HL", [(0xC7, 0x46)], 1, [7]⟩,
   ⟨"LD__HL__r", [(0xF8, 0x70)], 1, [7]⟩,
   ⟨"HALT", [(0xFF, 0x76)], 1, [4]⟩,
   ⟨"ADD_A_r", [(0xF8, 0x80)], 1, [4]⟩,
   ⟨"ADD_A__HL", [(0xFF, 0x86)], 1, [7]⟩,
   ⟨"ADD_A_n", [(0xFF, 0xC6)], 2, [7]⟩,
   ⟨"ADC_A_r", [(0xF8, 0x88)], 1, [4]⟩,
   ⟨"ADC_A__HL", [(0xFF, 0x8E)], 1, [7]⟩,
   ⟨"ADC_A_n", [(0xFF, 0xCE)], 2, [7]⟩,
   ⟨"SUB_r", [(0xF8, 0x90)], 1, [4]⟩,
   ⟨"SUB__HL", [(0xFF, 0x96)], 1, [7]⟩,
   ⟨"SUB_n", [(0xFF, 0xD6)], 2, [7]⟩,
   ⟨"SBC_A_r", [(0xF8, 0x98)], 1, [4]⟩,
   ⟨"SBC_A__HL", [(0xFF, 0x9E)], 1, [7]⟩,
   ⟨"SBC_A_n", [(0xFF, 0xDE)], 2, [7]⟩,
   ⟨"AND_r", [(0xF8, 0xA0)], 1, [4]⟩,
   ⟨"AND__HL", [(0xFF, 0xA6)], 1, [7]⟩,
   ⟨"AND_n", [(0xFF, 0xE6)], 2, [7]⟩,
   ⟨"XOR_r", [(0xF8, 0xA8)], 1, [4]⟩,
   ⟨"XOR__HL", [(0xFF, 0xAE)], 1, [7]⟩,
   ⟨"XOR_n", [(0xFF, 0xEE)], 2, [7]⟩,
   ⟨"OR_r", [(0xF8, 0xB0)], 1, [4]⟩,
   ⟨"OR__HL", [(0xFF, 0xB6)], 1, [7]⟩,
   ⟨"OR_n", [(0xFF, 0xF6)], 2, [7]⟩,
   ⟨"CP_r", [(0xF8, 0xB8)], 1, [4]⟩,
   ⟨"CP__HL", [(0xFF, 0xBE)], 1, [7]⟩,
   ⟨"CP_n", [(0xFF, 0xFE)], 2, [7]⟩,
   ⟨"RET_cc", [(0xC7, 0xC0)], 1, [11, 5]⟩]

/-- The rows of the unprefixed map (30_encoding.md R105). -/
def OpcodeRow.main3 : List OpcodeRow :=
  [⟨"POP_rp2", [(0xCF, 0xC1)], 1, [10]⟩,
   ⟨"JP_cc_nn", [(0xC7, 0xC2)], 3, [10]⟩,
   ⟨"JP_nn", [(0xFF, 0xC3)], 3, [10]⟩,
   ⟨"CALL_cc_nn", [(0xC7, 0xC4)], 3, [17, 10]⟩,
   ⟨"PUSH_rp2", [(0xCF, 0xC5)], 1, [11]⟩,
   ⟨"RST_t", [(0xC7, 0xC7)], 1, [11]⟩,
   ⟨"RET", [(0xFF, 0xC9)], 1, [10]⟩,
   ⟨"CALL_nn", [(0xFF, 0xCD)], 3, [17]⟩,
   ⟨"OUT__n__A", [(0xFF, 0xD3)], 2, [11]⟩,
   ⟨"EXX", [(0xFF, 0xD9)], 1, [4]⟩,
   ⟨"IN_A__n", [(0xFF, 0xDB)], 2, [11]⟩,
   ⟨"EX__SP__HL", [(0xFF, 0xE3)], 1, [19]⟩,
   ⟨"JP__HL", [(0xFF, 0xE9)], 1, [4]⟩,
   ⟨"EX_DE_HL", [(0xFF, 0xEB)], 1, [4]⟩,
   ⟨"DI", [(0xFF, 0xF3)], 1, [4]⟩,
   ⟨"LD_SP_HL", [(0xFF, 0xF9)], 1, [6]⟩,
   ⟨"EI", [(0xFF, 0xFB)], 1, [4]⟩]

/-- The rows of the CB map (R106). -/
def OpcodeRow.cb1 : List OpcodeRow :=
  [⟨"RLC_r", [(0xFF, 0xCB), (0xF8, 0x00)], 2, [8]⟩,
   ⟨"RLC__HL", [(0xFF, 0xCB), (0xFF, 0x06)], 2, [15]⟩,
   ⟨"RRC_r", [(0xFF, 0xCB), (0xF8, 0x08)], 2, [8]⟩,
   ⟨"RRC__HL", [(0xFF, 0xCB), (0xFF, 0x0E)], 2, [15]⟩,
   ⟨"RL_r", [(0xFF, 0xCB), (0xF8, 0x10)], 2, [8]⟩,
   ⟨"RL__HL", [(0xFF, 0xCB), (0xFF, 0x16)], 2, [15]⟩,
   ⟨"RR_r", [(0xFF, 0xCB), (0xF8, 0x18)], 2, [8]⟩,
   ⟨"RR__HL", [(0xFF, 0xCB), (0xFF, 0x1E)], 2, [15]⟩,
   ⟨"SLA_r", [(0xFF, 0xCB), (0xF8, 0x20)], 2, [8]⟩,
   ⟨"SLA__HL", [(0xFF, 0xCB), (0xFF, 0x26)], 2, [15]⟩,
   ⟨"SRA_r", [(0xFF, 0xCB), (0xF8, 0x28)], 2, [8]⟩,
   ⟨"SRA__HL", [(0xFF, 0xCB), (0xFF, 0x2E)], 2, [15]⟩,
   ⟨"SLL_r", [(0xFF, 0xCB), (0xF8, 0x30)], 2, [8]⟩,
   ⟨"SLL__HL", [(0xFF, 0xCB), (0xFF, 0x36)], 2, [15]⟩,
   ⟨"SRL_r", [(0xFF, 0xCB), (0xF8, 0x38)], 2, [8]⟩,
   ⟨"SRL__HL", [(0xFF, 0xCB), (0xFF, 0x3E)], 2, [15]⟩,
   ⟨"BIT_b_r", [(0xFF, 0xCB), (0xC0, 0x40)], 2, [8]⟩,
   ⟨"BIT_b__HL", [(0xFF, 0xCB), (0xC7, 0x46)], 2, [12]⟩,
   ⟨"RES_b_r", [(0xFF, 0xCB), (0xC0, 0x80)], 2, [8]⟩,
   ⟨"RES_b__HL", [(0xFF, 0xCB), (0xC7, 0x86)], 2, [15]⟩,
   ⟨"SET_b_r", [(0xFF, 0xCB), (0xC0, 0xC0)], 2, [8]⟩,
   ⟨"SET_b__HL", [(0xFF, 0xCB), (0xC7, 0xC6)], 2, [15]⟩]

/-- The rows of the ED map (R107, R108). -/
def OpcodeRow.ed1 : List OpcodeRow :=
  [⟨"NONI", [(0xFF, 0xED), (0x00, 0x00)], 2, [8]⟩,
   ⟨"IN_r__C", [(0xFF, 0xED), (0xC7, 0x40)], 2, [12]⟩,
   ⟨"IN__C", [(0xFF, 0xED), (0xFF, 0x70)], 2, [12]⟩,
   ⟨"OUT__C__r", [(0xFF, 0xED), (0xC7, 0x41)], 2, [12]⟩,
   ⟨"OUT__C__0", [(0xFF, 0xED), (0xFF, 0x71)], 2, [12]⟩,
   ⟨"SBC_HL_rp", [(0xFF, 0xED), (0xCF, 0x42)], 2, [15]⟩,
   ⟨"ADC_HL_rp", [(0xFF, 0xED), (0xCF, 0x4A)], 2, [15]⟩,
   ⟨"LD__nn__rp", [(0xFF, 0xED), (0xCF, 0x43)], 4, [20]⟩,
   ⟨"LD_rp__nn", [(0xFF, 0xED), (0xCF, 0x4B)], 4, [20]⟩,
   ⟨"NEG", [(0xFF, 0xED), (0xC7, 0x44)], 2, [8]⟩,
   ⟨"RETN", [(0xFF, 0xED), (0xC7, 0x45)], 2, [14]⟩,
   ⟨"RETI", [(0xFF, 0xED), (0xFF, 0x4D)], 2, [14]⟩,
   ⟨"IM_m", [(0xFF, 0xED), (0xC7, 0x46)], 2, [8]⟩,
   ⟨"LD_I_A", [(0xFF, 0xED), (0xFF, 0x47)], 2, [9]⟩,
   ⟨"LD_R_A", [(0xFF, 0xED), (0xFF, 0x4F)], 2, [9]⟩,
   ⟨"LD_A_I", [(0xFF, 0xED), (0xFF, 0x57)], 2, [9]⟩,
   ⟨"LD_A_R", [(0xFF, 0xED), (0xFF, 0x5F)], 2, [9]⟩,
   ⟨"RRD", [(0xFF, 0xED), (0xFF, 0x67)], 2, [18]⟩,
   ⟨"RLD", [(0xFF, 0xED), (0xFF, 0x6F)], 2, [18]⟩,
   ⟨"LDI", [(0xFF, 0xED), (0xFF, 0xA0)], 2, [16]⟩,
   ⟨"CPI", [(0xFF, 0xED), (0xFF, 0xA1)], 2, [16]⟩,
   ⟨"INI", [(0xFF, 0xED), (0xFF, 0xA2)], 2, [16]⟩,
   ⟨"OUTI", [(0xFF, 0xED), (0xFF, 0xA3)], 2, [16]⟩,
   ⟨"LDD", [(0xFF, 0xED), (0xFF, 0xA8)], 2, [16]⟩,
   ⟨"CPD", [(0xFF, 0xED), (0xFF, 0xA9)], 2, [16]⟩,
   ⟨"IND", [(0xFF, 0xED), (0xFF, 0xAA)], 2, [16]⟩,
   ⟨"OUTD", [(0xFF, 0xED), (0xFF, 0xAB)], 2, [16]⟩,
   ⟨"LDIR", [(0xFF, 0xED), (0xFF, 0xB0)], 2, [21, 16]⟩,
   ⟨"CPIR", [(0xFF, 0xED), (0xFF, 0xB1)], 2, [21, 16]⟩,
   ⟨"INIR", [(0xFF, 0xED), (0xFF, 0xB2)], 2, [21, 16]⟩]

/-- The rows of the ED map (R107, R108). -/
def OpcodeRow.ed2 : List OpcodeRow :=
  [⟨"OTIR", [(0xFF, 0xED), (0xFF, 0xB3)], 2, [21, 16]⟩,
   ⟨"LDDR", [(0xFF, 0xED), (0xFF, 0xB8)], 2, [21, 16]⟩,
   ⟨"CPDR", [(0xFF, 0xED), (0xFF, 0xB9)], 2, [21, 16]⟩,
   ⟨"INDR", [(0xFF, 0xED), (0xFF, 0xBA)], 2, [21, 16]⟩,
   ⟨"OTDR", [(0xFF, 0xED), (0xFF, 0xBB)], 2, [21, 16]⟩]

/-- The rows of the index prefixes (R109 to R111). -/
def OpcodeRow.xy1 : List OpcodeRow :=
  [⟨"prefix__ignored", [(0xDF, 0xDD)], 1, [4]⟩,
   ⟨"ADD_XY_rp", [(0xDF, 0xDD), (0xCF, 0x09)], 2, [15]⟩,
   ⟨"LD_XY_nn", [(0xDF, 0xDD), (0xFF, 0x21)], 4, [14]⟩,
   ⟨"LD__nn__XY", [(0xDF, 0xDD), (0xFF, 0x22)], 4, [20]⟩,
   ⟨"INC_XY", [(0xDF, 0xDD), (0xFF, 0x23)], 2, [10]⟩,
   ⟨"INC_XYH", [(0xDF, 0xDD), (0xFF, 0x24)], 2, [8]⟩,
   ⟨"DEC_XYH", [(0xDF, 0xDD), (0xFF, 0x25)], 2, [8]⟩,
   ⟨"LD_XYH_n", [(0xDF, 0xDD), (0xFF, 0x26)], 3, [11]⟩,
   ⟨"LD_XY__nn", [(0xDF, 0xDD), (0xFF, 0x2A)], 4, [20]⟩,
   ⟨"DEC_XY", [(0xDF, 0xDD), (0xFF, 0x2B)], 2, [10]⟩,
   ⟨"INC_XYL", [(0xDF, 0xDD), (0xFF, 0x2C)], 2, [8]⟩,
   ⟨"DEC_XYL", [(0xDF, 0xDD), (0xFF, 0x2D)], 2, [8]⟩,
   ⟨"LD_XYL_n", [(0xDF, 0xDD), (0xFF, 0x2E)], 3, [11]⟩,
   ⟨"INC__XY+d", [(0xDF, 0xDD), (0xFF, 0x34)], 3, [23]⟩,
   ⟨"DEC__XY+d", [(0xDF, 0xDD), (0xFF, 0x35)], 3, [23]⟩,
   ⟨"LD__XY+d__n", [(0xDF, 0xDD), (0xFF, 0x36)], 4, [19]⟩,
   ⟨"LD_r_XYH", [(0xDF, 0xDD), (0xC7, 0x44)], 2, [8]⟩,
   ⟨"LD_r_XYL", [(0xDF, 0xDD), (0xC7, 0x45)], 2, [8]⟩,
   ⟨"LD_XYH_r", [(0xDF, 0xDD), (0xFC, 0x60)], 2, [8]⟩,
   ⟨"LD_XYH_r", [(0xDF, 0xDD), (0xFF, 0x67)], 2, [8]⟩,
   ⟨"LD_XYL_r", [(0xDF, 0xDD), (0xFC, 0x68)], 2, [8]⟩,
   ⟨"LD_XYL_r", [(0xDF, 0xDD), (0xFF, 0x6F)], 2, [8]⟩,
   ⟨"LD_r__XY+d", [(0xDF, 0xDD), (0xE7, 0x46)], 3, [19]⟩,
   ⟨"LD_r__XY+d", [(0xDF, 0xDD), (0xF7, 0x66)], 3, [19]⟩,
   ⟨"LD_r__XY+d", [(0xDF, 0xDD), (0xFF, 0x7E)], 3, [19]⟩,
   ⟨"LD__XY+d__r", [(0xDF, 0xDD), (0xFC, 0x70)], 3, [19]⟩,
   ⟨"LD__XY+d__r", [(0xDF, 0xDD), (0xFE, 0x74)], 3, [19]⟩,
   ⟨"LD__XY+d__r", [(0xDF, 0xDD), (0xFF, 0x77)], 3, [19]⟩,
   ⟨"ADD_A_XYH", [(0xDF, 0xDD), (0xFF, 0x84)], 2, [8]⟩,
   ⟨"ADD_A_XYL", [(0xDF, 0xDD), (0xFF, 0x85)], 2, [8]⟩]

/-- The rows of the index prefixes (R109 to R111). -/
def OpcodeRow.xy2 : List OpcodeRow :=
  [⟨"ADD_A__XY+d", [(0xDF, 0xDD), (0xFF, 0x86)], 3, [19]⟩,
   ⟨"ADC_A_XYH", [(0xDF, 0xDD), (0xFF, 0x8C)], 2, [8]⟩,
   ⟨"ADC_A_XYL", [(0xDF, 0xDD), (0xFF, 0x8D)], 2, [8]⟩,
   ⟨"ADC_A__XY+d", [(0xDF, 0xDD), (0xFF, 0x8E)], 3, [19]⟩,
   ⟨"SUB_XYH", [(0xDF, 0xDD), (0xFF, 0x94)], 2, [8]⟩,
   ⟨"SUB_XYL", [(0xDF, 0xDD), (0xFF, 0x95)], 2, [8]⟩,
   ⟨"SUB__XY+d", [(0xDF, 0xDD), (0xFF, 0x96)], 3, [19]⟩,
   ⟨"SBC_A_XYH", [(0xDF, 0xDD), (0xFF, 0x9C)], 2, [8]⟩,
   ⟨"SBC_A_XYL", [(0xDF, 0xDD), (0xFF, 0x9D)], 2, [8]⟩,
   ⟨"SBC_A__XY+d", [(0xDF, 0xDD), (0xFF, 0x9E)], 3, [19]⟩,
   ⟨"AND_XYH", [(0xDF, 0xDD), (0xFF, 0xA4)], 2, [8]⟩,
   ⟨"AND_XYL", [(0xDF, 0xDD), (0xFF, 0xA5)], 2, [8]⟩,
   ⟨"AND__XY+d", [(0xDF, 0xDD), (0xFF, 0xA6)], 3, [19]⟩,
   ⟨"XOR_XYH", [(0xDF, 0xDD), (0xFF, 0xAC)], 2, [8]⟩,
   ⟨"XOR_XYL", [(0xDF, 0xDD), (0xFF, 0xAD)], 2, [8]⟩,
   ⟨"XOR__XY+d", [(0xDF, 0xDD), (0xFF, 0xAE)], 3, [19]⟩,
   ⟨"OR_XYH", [(0xDF, 0xDD), (0xFF, 0xB4)], 2, [8]⟩,
   ⟨"OR_XYL", [(0xDF, 0xDD), (0xFF, 0xB5)], 2, [8]⟩,
   ⟨"OR__XY+d", [(0xDF, 0xDD), (0xFF, 0xB6)], 3, [19]⟩,
   ⟨"CP_XYH", [(0xDF, 0xDD), (0xFF, 0xBC)], 2, [8]⟩,
   ⟨"CP_XYL", [(0xDF, 0xDD), (0xFF, 0xBD)], 2, [8]⟩,
   ⟨"CP__XY+d", [(0xDF, 0xDD), (0xFF, 0xBE)], 3, [19]⟩,
   ⟨"POP_XY", [(0xDF, 0xDD), (0xFF, 0xE1)], 2, [14]⟩,
   ⟨"EX__SP__XY", [(0xDF, 0xDD), (0xFF, 0xE3)], 2, [23]⟩,
   ⟨"PUSH_XY", [(0xDF, 0xDD), (0xFF, 0xE5)], 2, [15]⟩,
   ⟨"JP__XY", [(0xDF, 0xDD), (0xFF, 0xE9)], 2, [8]⟩,
   ⟨"LD_SP_XY", [(0xDF, 0xDD), (0xFF, 0xF9)], 2, [10]⟩]

/-- The rows of the form P 0xCB d op (R112). -/
def OpcodeRow.xycb1 : List OpcodeRow :=
  [⟨"RLC__XY+d", [(0xDF, 0xDD), (0xFF, 0xCB), (0x00, 0x00), (0xFF, 0x06)], 4, [23]⟩,
   ⟨"RLC__XY+d__r", [(0xDF, 0xDD), (0xFF, 0xCB), (0x00, 0x00), (0xF8, 0x00)], 4, [23]⟩,
   ⟨"RRC__XY+d", [(0xDF, 0xDD), (0xFF, 0xCB), (0x00, 0x00), (0xFF, 0x0E)], 4, [23]⟩,
   ⟨"RRC__XY+d__r", [(0xDF, 0xDD), (0xFF, 0xCB), (0x00, 0x00), (0xF8, 0x08)], 4, [23]⟩,
   ⟨"RL__XY+d", [(0xDF, 0xDD), (0xFF, 0xCB), (0x00, 0x00), (0xFF, 0x16)], 4, [23]⟩,
   ⟨"RL__XY+d__r", [(0xDF, 0xDD), (0xFF, 0xCB), (0x00, 0x00), (0xF8, 0x10)], 4, [23]⟩,
   ⟨"RR__XY+d", [(0xDF, 0xDD), (0xFF, 0xCB), (0x00, 0x00), (0xFF, 0x1E)], 4, [23]⟩,
   ⟨"RR__XY+d__r", [(0xDF, 0xDD), (0xFF, 0xCB), (0x00, 0x00), (0xF8, 0x18)], 4, [23]⟩,
   ⟨"SLA__XY+d", [(0xDF, 0xDD), (0xFF, 0xCB), (0x00, 0x00), (0xFF, 0x26)], 4, [23]⟩,
   ⟨"SLA__XY+d__r", [(0xDF, 0xDD), (0xFF, 0xCB), (0x00, 0x00), (0xF8, 0x20)], 4, [23]⟩,
   ⟨"SRA__XY+d", [(0xDF, 0xDD), (0xFF, 0xCB), (0x00, 0x00), (0xFF, 0x2E)], 4, [23]⟩,
   ⟨"SRA__XY+d__r", [(0xDF, 0xDD), (0xFF, 0xCB), (0x00, 0x00), (0xF8, 0x28)], 4, [23]⟩,
   ⟨"SLL__XY+d", [(0xDF, 0xDD), (0xFF, 0xCB), (0x00, 0x00), (0xFF, 0x36)], 4, [23]⟩,
   ⟨"SLL__XY+d__r", [(0xDF, 0xDD), (0xFF, 0xCB), (0x00, 0x00), (0xF8, 0x30)], 4, [23]⟩,
   ⟨"SRL__XY+d", [(0xDF, 0xDD), (0xFF, 0xCB), (0x00, 0x00), (0xFF, 0x3E)], 4, [23]⟩,
   ⟨"SRL__XY+d__r", [(0xDF, 0xDD), (0xFF, 0xCB), (0x00, 0x00), (0xF8, 0x38)], 4, [23]⟩,
   ⟨"BIT_b__XY+d", [(0xDF, 0xDD), (0xFF, 0xCB), (0x00, 0x00), (0xC0, 0x40)], 4, [20]⟩,
   ⟨"RES_b__XY+d", [(0xDF, 0xDD), (0xFF, 0xCB), (0x00, 0x00), (0xC7, 0x86)], 4, [23]⟩,
   ⟨"RES_b__XY+d__r", [(0xDF, 0xDD), (0xFF, 0xCB), (0x00, 0x00), (0xC0, 0x80)], 4, [23]⟩,
   ⟨"SET_b__XY+d", [(0xDF, 0xDD), (0xFF, 0xCB), (0x00, 0x00), (0xC7, 0xC6)], 4, [23]⟩,
   ⟨"SET_b__XY+d__r", [(0xDF, 0xDD), (0xFF, 0xCB), (0x00, 0x00), (0xC0, 0xC0)], 4, [23]⟩]

/-- All 212 rows of the table. -/
def opcodeTable : List OpcodeRow :=
  OpcodeRow.main1 ++ OpcodeRow.main2 ++ OpcodeRow.main3 ++ OpcodeRow.cb1 ++ OpcodeRow.ed1 ++ OpcodeRow.ed2 ++ OpcodeRow.xy1 ++ OpcodeRow.xy2 ++ OpcodeRow.xycb1

/-- A byte has the row's bits; a masked-out byte always has them (R115). -/
def OpcodeRow.byteFits (pattern : Byte × Byte) (b : Byte) : Bool := pattern.1 == 0 || b &&& pattern.1 == pattern.2

/-- The row's bytes all fit the first bytes of a sequence (R115). -/
def OpcodeRow.bytesFit : List (Byte × Byte) → List Byte → Bool
  | [], _ => true
  | _ :: _, [] => false
  | pattern :: ps, b :: bs => byteFits pattern b && bytesFit ps bs

/-- A row matches a byte sequence (R115). -/
def OpcodeRow.fits (row : OpcodeRow) (bs : List Byte) : Bool := bytesFit row.bytes bs

/-- The number of 1 bits of a byte. -/
def oneBits (b : Byte) : Nat := ((List.range 8).filter (fun k => b.getLsbD k)).length

/-- The number of 1 bits in the row's mask (R115). -/
def OpcodeRow.maskBits (row : OpcodeRow) : Nat := (row.bytes.map (fun pattern => oneBits pattern.1)).sum

/-- The name of an instruction in the table. -/
def Instr.mnemonic : Instr → String
  | .nop => "NOP"
  | .ldRpNn _ _ => "LD_rp_nn"
  | .ldMemBCA => "LD__BC__A"
  | .ldMemDEA => "LD__DE__A"
  | .ldAMemBC => "LD_A__BC"
  | .ldAMemDE => "LD_A__DE"
  | .incRp _ => "INC_rp"
  | .decRp _ => "DEC_rp"
  | .incR _ => "INC_r"
  | .incMemHL => "INC__HL"
  | .decR _ => "DEC_r"
  | .decMemHL => "DEC__HL"
  | .ldRN _ _ => "LD_r_n"
  | .ldMemHLN _ => "LD__HL__n"
  | .rlca => "RLCA"
  | .rrca => "RRCA"
  | .rla => "RLA"
  | .rra => "RRA"
  | .daa => "DAA"
  | .cpl => "CPL"
  | .scf => "SCF"
  | .ccf => "CCF"
  | .exAFAF => "EX_AF_AF"
  | .addHLRp _ => "ADD_HL_rp"
  | .djnz _ => "DJNZ_e"
  | .jr _ => "JR_e"
  | .jrCc _ _ => "JR_cc_e"
  | .ldMemNnHL _ => "LD__nn__HL"
  | .ldHLMemNn _ => "LD_HL__nn"
  | .ldMemNnA _ => "LD__nn__A"
  | .ldAMemNn _ => "LD_A__nn"
  | .ldRR _ _ => "LD_r_r"
  | .ldRMemHL _ => "LD_r__HL"
  | .ldMemHLR _ => "LD__HL__r"
  | .halt => "HALT"
  | .addAR _ => "ADD_A_r"
  | .addAMemHL => "ADD_A__HL"
  | .addAN _ => "ADD_A_n"
  | .adcAR _ => "ADC_A_r"
  | .adcAMemHL => "ADC_A__HL"
  | .adcAN _ => "ADC_A_n"
  | .subR _ => "SUB_r"
  | .subMemHL => "SUB__HL"
  | .subN _ => "SUB_n"
  | .sbcAR _ => "SBC_A_r"
  | .sbcAMemHL => "SBC_A__HL"
  | .sbcAN _ => "SBC_A_n"
  | .andR _ => "AND_r"
  | .andMemHL => "AND__HL"
  | .andN _ => "AND_n"
  | .xorR _ => "XOR_r"
  | .xorMemHL => "XOR__HL"
  | .xorN _ => "XOR_n"
  | .orR _ => "OR_r"
  | .orMemHL => "OR__HL"
  | .orN _ => "OR_n"
  | .cpR _ => "CP_r"
  | .cpMemHL => "CP__HL"
  | .cpN _ => "CP_n"
  | .retCc _ => "RET_cc"
  | .popRp2 _ => "POP_rp2"
  | .jpCc _ _ => "JP_cc_nn"
  | .jp _ => "JP_nn"
  | .callCc _ _ => "CALL_cc_nn"
  | .pushRp2 _ => "PUSH_rp2"
  | .rst _ => "RST_t"
  | .ret => "RET"
  | .call _ => "CALL_nn"
  | .outNA _ => "OUT__n__A"
  | .exx => "EXX"
  | .inAN _ => "IN_A__n"
  | .exMemSPHL => "EX__SP__HL"
  | .jpHL => "JP__HL"
  | .exDEHL => "EX_DE_HL"
  | .di => "DI"
  | .ldSPHL => "LD_SP_HL"
  | .ei => "EI"
  | .rlcR _ => "RLC_r"
  | .rlcMemHL => "RLC__HL"
  | .rrcR _ => "RRC_r"
  | .rrcMemHL => "RRC__HL"
  | .rlR _ => "RL_r"
  | .rlMemHL => "RL__HL"
  | .rrR _ => "RR_r"
  | .rrMemHL => "RR__HL"
  | .slaR _ => "SLA_r"
  | .slaMemHL => "SLA__HL"
  | .sraR _ => "SRA_r"
  | .sraMemHL => "SRA__HL"
  | .sllR _ => "SLL_r"
  | .sllMemHL => "SLL__HL"
  | .srlR _ => "SRL_r"
  | .srlMemHL => "SRL__HL"
  | .bitR _ _ => "BIT_b_r"
  | .bitMemHL _ => "BIT_b__HL"
  | .resR _ _ => "RES_b_r"
  | .resMemHL _ => "RES_b__HL"
  | .setR _ _ => "SET_b_r"
  | .setMemHL _ => "SET_b__HL"
  | .noni _ => "NONI"
  | .inRC _ => "IN_r__C"
  | .inC => "IN__C"
  | .outCR _ => "OUT__C__r"
  | .outC0 => "OUT__C__0"
  | .sbcHLRp _ => "SBC_HL_rp"
  | .adcHLRp _ => "ADC_HL_rp"
  | .ldMemNnRp _ _ => "LD__nn__rp"
  | .ldRpMemNn _ _ => "LD_rp__nn"
  | .neg _ => "NEG"
  | .retn _ => "RETN"
  | .reti => "RETI"
  | .im _ => "IM_m"
  | .ldIA => "LD_I_A"
  | .ldRA => "LD_R_A"
  | .ldAI => "LD_A_I"
  | .ldAR => "LD_A_R"
  | .rrd => "RRD"
  | .rld => "RLD"
  | .ldi => "LDI"
  | .cpi => "CPI"
  | .ini => "INI"
  | .outi => "OUTI"
  | .ldd => "LDD"
  | .cpd => "CPD"
  | .ind => "IND"
  | .outd => "OUTD"
  | .ldir => "LDIR"
  | .cpir => "CPIR"
  | .inir => "INIR"
  | .otir => "OTIR"
  | .lddr => "LDDR"
  | .cpdr => "CPDR"
  | .indr => "INDR"
  | .otdr => "OTDR"
  | .prefixIgnored _ => "prefix__ignored"
  | .addXYRp _ _ => "ADD_XY_rp"
  | .ldXYNn _ _ => "LD_XY_nn"
  | .ldMemNnXY _ _ => "LD__nn__XY"
  | .incXY _ => "INC_XY"
  | .incXYH _ => "INC_XYH"
  | .decXYH _ => "DEC_XYH"
  | .ldXYHN _ _ => "LD_XYH_n"
  | .ldXYMemNn _ _ => "LD_XY__nn"
  | .decXY _ => "DEC_XY"
  | .incXYL _ => "INC_XYL"
  | .decXYL _ => "DEC_XYL"
  | .ldXYLN _ _ => "LD_XYL_n"
  | .incMemXYd _ _ => "INC__XY+d"
  | .decMemXYd _ _ => "DEC__XY+d"
  | .ldMemXYdN _ _ _ => "LD__XY+d__n"
  | .ldRXYH _ _ => "LD_r_XYH"
  | .ldRXYL _ _ => "LD_r_XYL"
  | .ldXYHR _ _ => "LD_XYH_r"
  | .ldXYLR _ _ => "LD_XYL_r"
  | .ldRMemXYd _ _ _ => "LD_r__XY+d"
  | .ldMemXYdR _ _ _ => "LD__XY+d__r"
  | .addAXYH _ => "ADD_A_XYH"
  | .addAXYL _ => "ADD_A_XYL"
  | .addAMemXYd _ _ => "ADD_A__XY+d"
  | .adcAXYH _ => "ADC_A_XYH"
  | .adcAXYL _ => "ADC_A_XYL"
  | .adcAMemXYd _ _ => "ADC_A__XY+d"
  | .subXYH _ => "SUB_XYH"
  | .subXYL _ => "SUB_XYL"
  | .subMemXYd _ _ => "SUB__XY+d"
  | .sbcAXYH _ => "SBC_A_XYH"
  | .sbcAXYL _ => "SBC_A_XYL"
  | .sbcAMemXYd _ _ => "SBC_A__XY+d"
  | .andXYH _ => "AND_XYH"
  | .andXYL _ => "AND_XYL"
  | .andMemXYd _ _ => "AND__XY+d"
  | .xorXYH _ => "XOR_XYH"
  | .xorXYL _ => "XOR_XYL"
  | .xorMemXYd _ _ => "XOR__XY+d"
  | .orXYH _ => "OR_XYH"
  | .orXYL _ => "OR_XYL"
  | .orMemXYd _ _ => "OR__XY+d"
  | .cpXYH _ => "CP_XYH"
  | .cpXYL _ => "CP_XYL"
  | .cpMemXYd _ _ => "CP__XY+d"
  | .popXY _ => "POP_XY"
  | .exMemSPXY _ => "EX__SP__XY"
  | .pushXY _ => "PUSH_XY"
  | .jpXY _ => "JP__XY"
  | .ldSPXY _ => "LD_SP_XY"
  | .rlcMemXYd _ _ => "RLC__XY+d"
  | .rlcMemXYdR _ _ _ => "RLC__XY+d__r"
  | .rrcMemXYd _ _ => "RRC__XY+d"
  | .rrcMemXYdR _ _ _ => "RRC__XY+d__r"
  | .rlMemXYd _ _ => "RL__XY+d"
  | .rlMemXYdR _ _ _ => "RL__XY+d__r"
  | .rrMemXYd _ _ => "RR__XY+d"
  | .rrMemXYdR _ _ _ => "RR__XY+d__r"
  | .slaMemXYd _ _ => "SLA__XY+d"
  | .slaMemXYdR _ _ _ => "SLA__XY+d__r"
  | .sraMemXYd _ _ => "SRA__XY+d"
  | .sraMemXYdR _ _ _ => "SRA__XY+d__r"
  | .sllMemXYd _ _ => "SLL__XY+d"
  | .sllMemXYdR _ _ _ => "SLL__XY+d__r"
  | .srlMemXYd _ _ => "SRL__XY+d"
  | .srlMemXYdR _ _ _ => "SRL__XY+d__r"
  | .bitMemXYd _ _ _ _ => "BIT_b__XY+d"
  | .resMemXYd _ _ _ => "RES_b__XY+d"
  | .resMemXYdR _ _ _ _ => "RES_b__XY+d__r"
  | .setMemXYd _ _ _ => "SET_b__XY+d"
  | .setMemXYdR _ _ _ _ => "SET_b__XY+d__r"

/-- The cycle counts that the table gives an instruction (R117): taken and not taken, or repeat and last, where there are two. -/
def Instr.tableCycles : Instr → List Nat
  | .nop => [4]
  | .ldRpNn _ _ => [10]
  | .ldMemBCA => [7]
  | .ldMemDEA => [7]
  | .ldAMemBC => [7]
  | .ldAMemDE => [7]
  | .incRp _ => [6]
  | .decRp _ => [6]
  | .incR _ => [4]
  | .incMemHL => [11]
  | .decR _ => [4]
  | .decMemHL => [11]
  | .ldRN _ _ => [7]
  | .ldMemHLN _ => [10]
  | .rlca => [4]
  | .rrca => [4]
  | .rla => [4]
  | .rra => [4]
  | .daa => [4]
  | .cpl => [4]
  | .scf => [4]
  | .ccf => [4]
  | .exAFAF => [4]
  | .addHLRp _ => [11]
  | .djnz _ => [13, 8]
  | .jr _ => [12]
  | .jrCc _ _ => [12, 7]
  | .ldMemNnHL _ => [16]
  | .ldHLMemNn _ => [16]
  | .ldMemNnA _ => [13]
  | .ldAMemNn _ => [13]
  | .ldRR _ _ => [4]
  | .ldRMemHL _ => [7]
  | .ldMemHLR _ => [7]
  | .halt => [4]
  | .addAR _ => [4]
  | .addAMemHL => [7]
  | .addAN _ => [7]
  | .adcAR _ => [4]
  | .adcAMemHL => [7]
  | .adcAN _ => [7]
  | .subR _ => [4]
  | .subMemHL => [7]
  | .subN _ => [7]
  | .sbcAR _ => [4]
  | .sbcAMemHL => [7]
  | .sbcAN _ => [7]
  | .andR _ => [4]
  | .andMemHL => [7]
  | .andN _ => [7]
  | .xorR _ => [4]
  | .xorMemHL => [7]
  | .xorN _ => [7]
  | .orR _ => [4]
  | .orMemHL => [7]
  | .orN _ => [7]
  | .cpR _ => [4]
  | .cpMemHL => [7]
  | .cpN _ => [7]
  | .retCc _ => [11, 5]
  | .popRp2 _ => [10]
  | .jpCc _ _ => [10]
  | .jp _ => [10]
  | .callCc _ _ => [17, 10]
  | .pushRp2 _ => [11]
  | .rst _ => [11]
  | .ret => [10]
  | .call _ => [17]
  | .outNA _ => [11]
  | .exx => [4]
  | .inAN _ => [11]
  | .exMemSPHL => [19]
  | .jpHL => [4]
  | .exDEHL => [4]
  | .di => [4]
  | .ldSPHL => [6]
  | .ei => [4]
  | .rlcR _ => [8]
  | .rlcMemHL => [15]
  | .rrcR _ => [8]
  | .rrcMemHL => [15]
  | .rlR _ => [8]
  | .rlMemHL => [15]
  | .rrR _ => [8]
  | .rrMemHL => [15]
  | .slaR _ => [8]
  | .slaMemHL => [15]
  | .sraR _ => [8]
  | .sraMemHL => [15]
  | .sllR _ => [8]
  | .sllMemHL => [15]
  | .srlR _ => [8]
  | .srlMemHL => [15]
  | .bitR _ _ => [8]
  | .bitMemHL _ => [12]
  | .resR _ _ => [8]
  | .resMemHL _ => [15]
  | .setR _ _ => [8]
  | .setMemHL _ => [15]
  | .noni _ => [8]
  | .inRC _ => [12]
  | .inC => [12]
  | .outCR _ => [12]
  | .outC0 => [12]
  | .sbcHLRp _ => [15]
  | .adcHLRp _ => [15]
  | .ldMemNnRp _ _ => [20]
  | .ldRpMemNn _ _ => [20]
  | .neg _ => [8]
  | .retn _ => [14]
  | .reti => [14]
  | .im _ => [8]
  | .ldIA => [9]
  | .ldRA => [9]
  | .ldAI => [9]
  | .ldAR => [9]
  | .rrd => [18]
  | .rld => [18]
  | .ldi => [16]
  | .cpi => [16]
  | .ini => [16]
  | .outi => [16]
  | .ldd => [16]
  | .cpd => [16]
  | .ind => [16]
  | .outd => [16]
  | .ldir => [21, 16]
  | .cpir => [21, 16]
  | .inir => [21, 16]
  | .otir => [21, 16]
  | .lddr => [21, 16]
  | .cpdr => [21, 16]
  | .indr => [21, 16]
  | .otdr => [21, 16]
  | .prefixIgnored _ => [4]
  | .addXYRp _ _ => [15]
  | .ldXYNn _ _ => [14]
  | .ldMemNnXY _ _ => [20]
  | .incXY _ => [10]
  | .incXYH _ => [8]
  | .decXYH _ => [8]
  | .ldXYHN _ _ => [11]
  | .ldXYMemNn _ _ => [20]
  | .decXY _ => [10]
  | .incXYL _ => [8]
  | .decXYL _ => [8]
  | .ldXYLN _ _ => [11]
  | .incMemXYd _ _ => [23]
  | .decMemXYd _ _ => [23]
  | .ldMemXYdN _ _ _ => [19]
  | .ldRXYH _ _ => [8]
  | .ldRXYL _ _ => [8]
  | .ldXYHR _ _ => [8]
  | .ldXYLR _ _ => [8]
  | .ldRMemXYd _ _ _ => [19]
  | .ldMemXYdR _ _ _ => [19]
  | .addAXYH _ => [8]
  | .addAXYL _ => [8]
  | .addAMemXYd _ _ => [19]
  | .adcAXYH _ => [8]
  | .adcAXYL _ => [8]
  | .adcAMemXYd _ _ => [19]
  | .subXYH _ => [8]
  | .subXYL _ => [8]
  | .subMemXYd _ _ => [19]
  | .sbcAXYH _ => [8]
  | .sbcAXYL _ => [8]
  | .sbcAMemXYd _ _ => [19]
  | .andXYH _ => [8]
  | .andXYL _ => [8]
  | .andMemXYd _ _ => [19]
  | .xorXYH _ => [8]
  | .xorXYL _ => [8]
  | .xorMemXYd _ _ => [19]
  | .orXYH _ => [8]
  | .orXYL _ => [8]
  | .orMemXYd _ _ => [19]
  | .cpXYH _ => [8]
  | .cpXYL _ => [8]
  | .cpMemXYd _ _ => [19]
  | .popXY _ => [14]
  | .exMemSPXY _ => [23]
  | .pushXY _ => [15]
  | .jpXY _ => [8]
  | .ldSPXY _ => [10]
  | .rlcMemXYd _ _ => [23]
  | .rlcMemXYdR _ _ _ => [23]
  | .rrcMemXYd _ _ => [23]
  | .rrcMemXYdR _ _ _ => [23]
  | .rlMemXYd _ _ => [23]
  | .rlMemXYdR _ _ _ => [23]
  | .rrMemXYd _ _ => [23]
  | .rrMemXYdR _ _ _ => [23]
  | .slaMemXYd _ _ => [23]
  | .slaMemXYdR _ _ _ => [23]
  | .sraMemXYd _ _ => [23]
  | .sraMemXYdR _ _ _ => [23]
  | .sllMemXYd _ _ => [23]
  | .sllMemXYdR _ _ _ => [23]
  | .srlMemXYd _ _ => [23]
  | .srlMemXYdR _ _ _ => [23]
  | .bitMemXYd _ _ _ _ => [20]
  | .resMemXYd _ _ _ => [23]
  | .resMemXYdR _ _ _ _ => [23]
  | .setMemXYd _ _ _ => [23]
  | .setMemXYdR _ _ _ _ => [23]

end Sys2Proof
end

