-- ==== Sys2Proof/Safety.lean ====
section
/-! DEFINITION. What counts as a safe run, the invariants of the machine, and the terms in which the statements are written: the
flags by name, the frames, the stored bytes, and tables that say of each instruction what its rule does to which operand. -/

namespace Sys2Proof

/-- AFFECTED: the opcodes that an index prefix changes (30_encoding.md R109). -/
def affectedOpcodes : List Byte :=
  [0x09, 0x19, 0x21, 0x22, 0x23, 0x24, 0x25, 0x26, 0x29, 0x2A, 0x2B, 0x2C, 0x2D] ++
  [0x2E, 0x34, 0x35, 0x36, 0x39, 0x44, 0x45, 0x46, 0x4C, 0x4D, 0x4E, 0x54, 0x55, 0x56, 0x5C] ++
  [0x5D, 0x5E] ++ (List.range 0x16).map (fun k => BitVec.ofNat 8 (0x60 + k)) ++
  [0x77, 0x7C, 0x7D, 0x7E, 0x84, 0x85, 0x86, 0x8C, 0x8D, 0x8E, 0x94] ++
  [0x95, 0x96, 0x9C, 0x9D, 0x9E, 0xA4, 0xA5, 0xA6, 0xAC, 0xAD, 0xAE, 0xB4, 0xB5, 0xB6, 0xBC] ++
  [0xBD, 0xBE, 0xCB, 0xE1, 0xE3, 0xE5, 0xE9, 0xF9]

/-- The bytes that may follow an instruction without changing it: any, but after an index prefix that is ignored the next byte
must be there and not AFFECTED (30_encoding.md R111). -/
def Instr.mayPrecede (i : Instr) (rest : List Byte) : Prop :=
  match i with
  | .prefixIgnored _ => ∃ b bs, rest = b :: bs ∧ b ∉ affectedOpcodes
  | _ => True

/-- The row that R115 chooses for a byte sequence: it matches, and every other row that matches has fewer 1 bits in its mask. -/
def OpcodeRow.chosenFor (row : OpcodeRow) (bs : List Byte) : Prop :=
  row ∈ opcodeTable ∧ row.fits bs = true ∧
    ∀ other ∈ opcodeTable, other.fits bs = true → other ≠ row → other.maskBits < row.maskBits

/-- An even number of 1 bits: `parity` of 00_scope.md R8, by counting them. -/
def evenOnes (v : Byte) : Bool := oneBits v % 2 == 0

end Sys2Proof

namespace Sys2Proof.Machine

/-! ### Safe runs and invariants -/

/-- A run of `n` machine steps that neither faults nor is refused. -/
def State.runsFor (n : Nat) (s : State) : Prop := ∃ t : State, Sys2Proof.core.run n s = .next t

/-- What holds of the machine after reset in a configuration that init accepts, and of every step's result. -/
structure State.Inv (s : State) : Prop where
  /-- init accepts the configuration (20_memory.md R63, 60_exceptions.md R650). -/
  configured : s.cfg.check = none
  /-- The RAM store is canonical with no byte outside the RAM regions, each bank selects a backing it has (10_state.md R39). -/
  memory : s.mem.ok s.cfg = true
  /-- Every device counter and register is in its range, and no undefined video behaviour was reached (10_state.md R41 to R44,
  60_exceptions.md R607). -/
  devices : s.io.ok s.cfg = true
  /-- The timer and the beam keep the same time (60_exceptions.md R626). -/
  together : s.io.together s.cfg = true
  /-- The largest cost of one step is 23 cycles (70_reset_and_hazards.md R720). -/
  cycles : s.stepCycles ≤ 23
  /-- IFF1 is set only while IFF2 is (10_state.md R30). -/
  enables : s.cpu.iff1 = true → s.cpu.iff2 = true
  /-- At most one inhibit bit is set, and none while halted (10_state.md R34). -/
  inhibits : ¬(s.cpu.eiInhibit = true ∧ s.cpu.prefixInhibit = true)
  idle : s.cpu.halted = true → s.cpu.eiInhibit = false ∧ s.cpu.prefixInhibit = false

/-- VIDEO_DEV leaves no behaviour undefined, and none was reached (60_exceptions.md R607, R640). -/
def State.videoDefined (s : State) : Prop := s.cfg.videoUndefined = [] ∧ s.io.video.undef = false

/-- The timer and the beam keep the same time, and the executed count is that time in whole frames and the rest
(60_exceptions.md R626: "both counters start at 0 and advance by the same cycles"). -/
structure State.Beam (s : State) : Prop where
  together : s.io.timer.count = s.io.video.line * s.cfg.cyclesPerLine + s.io.video.dot
  total : s.clock.executed = s.io.video.frameCount * s.cfg.timerPeriod + s.io.timer.count

/-- No mode-0 acknowledge can meet a vector byte that is no RST opcode (60_exceptions.md R607, R611). -/
def State.rstVectors (s : State) : Prop := isRst s.cpu.intVec = true ∧ isRst s.cfg.intVector = true

/-- An address lies in a region (20_memory.md R62). -/
def inRegion (g : Region) (a : Nat) : Prop := g.start ≤ a ∧ a < g.start + g.length

/-- What 20_memory.md R63 refuses in a region table of the addresses below `stop`: an address in no region, an address in two, a
region of length 0, a region past the end, regions out of order. -/
def tableBroken (table : List Region) (stop : Nat) : Prop :=
  (∃ a < stop, ∀ g ∈ table, ¬inRegion g a) ∨
  (∃ (a j k : Nat) (g h : Region), table[j]? = some g ∧ table[k]? = some h ∧ j ≠ k ∧ inRegion g a ∧ inRegion h a) ∨
  (∃ g ∈ table, g.length = 0 ∨ stop < g.start + g.length) ∨
  (∃ (j k : Nat) (g h : Region), table[j]? = some g ∧ table[k]? = some h ∧ j < k ∧ h.start ≤ g.start)

/-- The total length of the ROM regions of MEM_MAP and of the ROM backings of the banks (20_memory.md R63, R68; log 17). -/
def romTotal (cfg : Config) : Nat :=
  ((cfg.memMap.map (fun g => (g.backing, g.length)) ++
    cfg.banks.flatMap (fun bank => bank.backings.map (fun bk => (bk, bank.length)))).map
      (fun part => match part.1 with
        | .rom _ => part.2
        | .ram _ | .io _ | .unmapped => 0)).sum

/-- R after `n` M1 cycles: bit 7 kept, the low 7 bits advanced modulo 128 (10_state.md R31). -/
def refreshBy (r : Byte) (n : Nat) : Byte := (r &&& 0x80) ||| BitVec.ofNat 8 ((r.toNat + n) % 128)

/-! ### Flags -/

/-- The eight flags of F by name, as a rule gives them. -/
structure Flags where
  s : Bool
  z : Bool
  h : Bool
  pv : Bool
  n : Bool
  c : Bool
  y : Bool
  x : Bool
  deriving DecidableEq, Repr

/-- F holds the flags a rule gives; its bits Y and X only under XY_EXACT (00_scope.md R13). -/
def State.flagsAre (t : State) (g : Flags) : Prop :=
  flagS t.f = g.s ∧ flagZ t.f = g.z ∧ flagH t.f = g.h ∧ flagPV t.f = g.pv ∧ flagN t.f = g.n ∧ flagC t.f = g.c ∧
    (t.cfg.xyExact = true → flagY t.f = g.y ∧ flagX t.f = g.x)

/-- F without its bits Y and X: the six documented flags. -/
def documentedFlags (f : Byte) : Byte := f &&& 0b11010111

/-- F was written with `v`: all eight bits under XY_EXACT, else all but Y and X (00_scope.md R13). -/
def State.fWritten (t : State) (v : Byte) : Prop :=
  documentedFlags t.f = documentedFlags v ∧ (t.cfg.xyExact = true → t.f = v)

/-- The state with XY_EXACT set or cleared in its configuration. -/
def State.withXyExact (s : State) (b : Bool) : State := { s with cfg := { s.cfg with xyExact := b } }

/-! ### Frames -/

/-- Nothing outside the CPU has changed, but the devices, which are as `dev` says (a read may change a device): the
configuration, every byte of memory, the bank selection, the clock and the lifecycle. -/
structure State.KeepsAll (s : State) (dev : IoDevices) (t : State) : Prop where
  cfg : t.cfg = s.cfg
  mem : t.mem = s.mem
  bytes : ∀ a, t.byteAt a = s.byteAt a
  io : t.io = dev
  clock : t.clock = s.clock
  life : t.life = s.life

/-- Bytes written to MEM one after another (20_memory.md R67). -/
def State.writeAll : List (Word × Byte) → State → State
  | [], s => s
  | p :: ps, s => State.writeAll ps (s.memWrite p.1 p.2)

/-- The byte that a list of writes leaves at an address, if it writes there. -/
def lastWrite : List (Word × Byte) → Word → Option Byte
  | [], _ => none
  | p :: ps, a => match lastWrite ps a with
    | some v => some v
    | none => if p.1 = a then some p.2 else none

/-- What an address reads as after the writes: the byte last written to it where it is RAM, else what it read before; ROM and
unmapped addresses ignore the write (20_memory.md R67). -/
def State.byteAfter (s : State) (writes : List (Word × Byte)) (a : Word) : Option Byte :=
  match lastWrite writes a, s.memTarget a with
  | some v, .ram _ => some v
  | _, _ => s.byteAt a

/-- The bytes of `writes` were stored, in that order, and nothing else in memory: the devices stood as `dev` says before the
writes. Where none of the addresses is a device's, every other byte of memory reads as before. -/
structure State.Stores (s : State) (dev : IoDevices) (writes : List (Word × Byte)) (t : State) : Prop where
  cfg : t.cfg = s.cfg
  clock : t.clock = s.clock
  life : t.life = s.life
  mem : t.mem = (State.writeAll writes { s with io := dev }).mem
  io : t.io = (State.writeAll writes { s with io := dev }).io
  bytes : s.cfg.check = none → s.mem.ok s.cfg = true → (∀ p ∈ writes, ∀ reg, s.memTarget p.1 ≠ .device reg) →
    t.io = dev ∧ ∀ a, t.byteAt a = s.byteAfter writes a

/-- One byte was written to a port, and nothing else: the devices stood as `dev` says before. RAM is unchanged, and so is every
byte of memory while no bank selection changes. -/
structure State.Outs (s : State) (dev : IoDevices) (port : Word) (v : Byte) (t : State) : Prop where
  cfg : t.cfg = s.cfg
  clock : t.clock = s.clock
  life : t.life = s.life
  mem : t.mem = ({ s with io := dev }.ioWrite port v).mem
  io : t.io = ({ s with io := dev }.ioWrite port v).io
  ram : s.cfg.check = none → t.mem.ram = s.mem.ram
  bytes : s.cfg.check = none → t.mem.bankSel = s.mem.bankSel → ∀ a, t.byteAt a = s.byteAt a

/-! ### Operands -/

/-- A byte register that an instruction can name: one of r[ ], or half of an index register (30_encoding.md R104, R110). -/
inductive ByteReg where
  | reg (r : Reg8)
  | xyh (p : IndexReg)
  | xyl (p : IndexReg)
  deriving DecidableEq, Repr

/-- A word register or pair (10_state.md R21, R23, R24). -/
inductive WordReg where
  | bc | de | hl | sp | ix | iy
  deriving DecidableEq, Repr

/-- A word that PUSH and POP name (30_encoding.md R104). -/
inductive StackReg where
  | bc | de | hl | af | ix | iy
  deriving DecidableEq, Repr

/-- The address of a memory operand (30_encoding.md R103). -/
inductive Addr where
  | hl
  | bc
  | de
  | nn (nn : Word)
  | disp (p : IndexReg) (d : Byte)
  deriving DecidableEq, Repr

/-- A source operand of a byte (30_encoding.md R103). -/
inductive Src where
  | reg (b : ByteReg)
  | imm (n : Byte)
  | mem (a : Addr)
  deriving DecidableEq, Repr

/-- What a byte register holds. -/
def State.byteReg (s : State) : ByteReg → Byte
  | .reg r => s.reg8 r
  | .xyh p => hi (s.index p)
  | .xyl p => lo (s.index p)

/-- What a word register holds. -/
def State.wordReg (s : State) : WordReg → Word
  | .bc => s.bc
  | .de => s.de
  | .hl => s.hl
  | .sp => s.cpu.sp
  | .ix => s.cpu.ix
  | .iy => s.cpu.iy

/-- What a word register of PUSH and POP holds. -/
def State.stackReg (s : State) : StackReg → Word
  | .bc => s.bc
  | .de => s.de
  | .hl => s.hl
  | .af => s.cpu.main.af
  | .ix => s.cpu.ix
  | .iy => s.cpu.iy

/-- A pair of rp[ ] as a word register. -/
def pairReg : RegPair → WordReg
  | .bc => .bc
  | .de => .de
  | .hl => .hl
  | .sp => .sp

/-- An index register as a word register. -/
def indexReg : IndexReg → WordReg
  | .ix => .ix
  | .iy => .iy

/-- A pair of rp[ ] after an index prefix as a word register. -/
def xyPairReg (p : IndexReg) : XYPair → WordReg
  | .bc => .bc
  | .de => .de
  | .xy => indexReg p
  | .sp => .sp

/-- A pair of rp2[ ] as a word of the stack instructions. -/
def stackPairReg : StackPair → StackReg
  | .bc => .bc
  | .de => .de
  | .hl => .hl
  | .af => .af

/-- An index register as a word of the stack instructions. -/
def indexStackReg : IndexReg → StackReg
  | .ix => .ix
  | .iy => .iy

/-- A register of r[ ] after an index prefix as a byte register. -/
def xyByteReg (p : IndexReg) : XYReg8 → ByteReg
  | .b => .reg .b
  | .c => .reg .c
  | .d => .reg .d
  | .e => .reg .e
  | .xyh => .xyh p
  | .xyl => .xyl p
  | .a => .reg .a

/-- The effective address of (XY+d): the displacement is signed, the sum is modulo 2^16 (30_encoding.md R102). -/
def displaced (base : Word) (d : Byte) : Word := BitVec.ofInt 16 (base.toNat + d.toInt)

/-- The address of a memory operand. -/
def State.addrOf (s : State) : Addr → Word
  | .hl => s.hl
  | .bc => s.bc
  | .de => s.de
  | .nn nn => nn
  | .disp p d => displaced (s.index p) d

/-- WZ after a read of the operand: (XY+d) leaves its address there, A's loads the address plus 1, (HL) nothing (40_load8.md R154,
R155, R160 to R162; 43_alu8.md R301). -/
def State.wzAfterRead (s : State) : Src → Word
  | .reg _ | .imm _ | .mem .hl => s.cpu.wz
  | .mem (.disp p d) => s.addrOf (.disp p d)
  | .mem a => s.addrOf a + 1

/-- A source operand's byte, and the devices after it is read: only a read of memory can touch a device. -/
def State.readSrc (s : State) : Src → Byte × IoDevices
  | .reg b => (s.byteReg b, s.io)
  | .imm n => (n, s.io)
  | .mem a => ((s.memRead (s.addrOf a)).1, (s.memRead (s.addrOf a)).2.io)

/-- WZ after a store of `v` to the operand: A's stores leave A above the low byte of the address plus 1 (40_load8.md R156, R157,
R163 to R165). -/
def State.wzAfterWrite (s : State) (v : Byte) : Addr → Word
  | .hl => s.cpu.wz
  | .disp p d => s.addrOf (.disp p d)
  | a => v ++ lo (s.addrOf a + 1)

/-! ### Which instruction does what to which operand -/

/-- The 8-bit loads of a register: destination, source, cycles (40_load8.md R150 to R155, R160 to R162). -/
def byteLoad : Instr → Option (ByteReg × Src × Nat)
  | .ldRR dst src => some (.reg dst, .reg (.reg src), 4)
  | .ldRXYH r p => some (xyByteReg p r, .reg (.xyh p), 8)
  | .ldRXYL r p => some (xyByteReg p r, .reg (.xyl p), 8)
  | .ldXYHR p r => some (.xyh p, .reg (.reg r), 8)
  | .ldXYLR p r => some (.xyl p, .reg (.reg r), 8)
  | .ldRN r n => some (.reg r, .imm n, 7)
  | .ldXYHN p n => some (.xyh p, .imm n, 11)
  | .ldXYLN p n => some (.xyl p, .imm n, 11)
  | .ldRMemHL r => some (.reg r, .mem .hl, 7)
  | .ldRMemXYd r p d => some (.reg r, .mem (.disp p d), 19)
  | .ldAMemBC => some (.reg .a, .mem .bc, 7)
  | .ldAMemDE => some (.reg .a, .mem .de, 7)
  | .ldAMemNn nn => some (.reg .a, .mem (.nn nn), 13)
  | _ => none

/-- The 8-bit stores: address, source, cycles (40_load8.md R156 to R159, R163 to R165). -/
def byteStore : Instr → Option (Addr × Src × Nat)
  | .ldMemHLR r => some (.hl, .reg (.reg r), 7)
  | .ldMemXYdR p d r => some (.disp p d, .reg (.reg r), 19)
  | .ldMemHLN n => some (.hl, .imm n, 10)
  | .ldMemXYdN p d n => some (.disp p d, .imm n, 19)
  | .ldMemBCA => some (.bc, .reg (.reg .a), 7)
  | .ldMemDEA => some (.de, .reg (.reg .a), 7)
  | .ldMemNnA nn => some (.nn nn, .reg (.reg .a), 13)
  | _ => none

/-- A source of a word: an immediate, a register, or a register plus or minus 1. -/
inductive WordSrc where
  | imm (nn : Word)
  | reg (w : WordReg)
  | inc (w : WordReg)
  | dec (w : WordReg)
  deriving DecidableEq, Repr

/-- The word a source gives, modulo 2^16. -/
def State.wordSrc (s : State) : WordSrc → Word
  | .imm nn => nn
  | .reg w => s.wordReg w
  | .inc w => BitVec.ofNat 16 ((s.wordReg w).toNat + 1)
  | .dec w => BitVec.ofInt 16 ((s.wordReg w).toNat - 1)

/-- The 16-bit loads between registers, and INC and DEC of a word: destination, source, cycles (41_load16_exchange.md R200, R201,
R208, R209; 44_alu16.md R354 to R357). -/
def wordMove : Instr → Option (WordReg × WordSrc × Nat)
  | .ldRpNn rp nn => some (pairReg rp, .imm nn, 10)
  | .ldXYNn p nn => some (indexReg p, .imm nn, 14)
  | .ldSPHL => some (.sp, .reg .hl, 6)
  | .ldSPXY p => some (.sp, .reg (indexReg p), 10)
  | .incRp rp => some (pairReg rp, .inc (pairReg rp), 6)
  | .incXY p => some (indexReg p, .inc (indexReg p), 10)
  | .decRp rp => some (pairReg rp, .dec (pairReg rp), 6)
  | .decXY p => some (indexReg p, .dec (indexReg p), 10)
  | _ => none

/-- The 16-bit loads from memory: destination, address, cycles (41_load16_exchange.md R202 to R204). -/
def wordLoad : Instr → Option (WordReg × Word × Nat)
  | .ldHLMemNn nn => some (.hl, nn, 16)
  | .ldXYMemNn p nn => some (indexReg p, nn, 20)
  | .ldRpMemNn rp nn => some (pairReg rp, nn, 20)
  | _ => none

/-- The 16-bit stores: address, source, cycles (41_load16_exchange.md R205 to R207). -/
def wordStore : Instr → Option (Word × WordReg × Nat)
  | .ldMemNnHL nn => some (nn, .hl, 16)
  | .ldMemNnXY nn p => some (nn, indexReg p, 20)
  | .ldMemNnRp nn rp => some (nn, pairReg rp, 20)
  | _ => none

/-- PUSH: the word pushed, cycles (41_load16_exchange.md R210, R211). -/
def pushOf : Instr → Option (StackReg × Nat)
  | .pushRp2 rp => some (stackPairReg rp, 11)
  | .pushXY p => some (indexStackReg p, 15)
  | _ => none

/-- POP: the word popped, cycles (41_load16_exchange.md R212, R213). -/
def popOf : Instr → Option (StackReg × Nat)
  | .popRp2 rp => some (stackPairReg rp, 10)
  | .popXY p => some (indexStackReg p, 14)
  | _ => none

/-- EX (SP): the register exchanged, cycles (41_load16_exchange.md R217, R218). -/
def exchangeOf : Instr → Option (WordReg × Nat)
  | .exMemSPHL => some (.hl, 19)
  | .exMemSPXY p => some (indexReg p, 23)
  | _ => none

/-- A block instruction steps its addresses up or down, once or repeating (42_block.md, 47_io.md). -/
structure BlockKind where
  up : Bool
  repeats : Bool
  deriving DecidableEq, Repr

/-- An address stepped up or down, modulo 2^16. -/
def BlockKind.next (k : BlockKind) (w : Word) : Word := BitVec.ofInt 16 (w.toNat + (if k.up then 1 else -1))

/-- LDI, LDD, LDIR, LDDR (42_block.md R250 to R253). -/
def blockCopy : Instr → Option BlockKind
  | .ldi => some ⟨true, false⟩
  | .ldd => some ⟨false, false⟩
  | .ldir => some ⟨true, true⟩
  | .lddr => some ⟨false, true⟩
  | _ => none

/-- CPI, CPD, CPIR, CPDR (42_block.md R254 to R257). -/
def blockSearch : Instr → Option BlockKind
  | .cpi => some ⟨true, false⟩
  | .cpd => some ⟨false, false⟩
  | .cpir => some ⟨true, true⟩
  | .cpdr => some ⟨false, true⟩
  | _ => none

/-- INI, IND, INIR, INDR (47_io.md R506, R507, R511, R512). -/
def blockIn : Instr → Option BlockKind
  | .ini => some ⟨true, false⟩
  | .ind => some ⟨false, false⟩
  | .inir => some ⟨true, true⟩
  | .indr => some ⟨false, true⟩
  | _ => none

/-- OUTI, OUTD, OTIR, OTDR (47_io.md R508, R509, R513, R514). -/
def blockOut : Instr → Option BlockKind
  | .outi => some ⟨true, false⟩
  | .outd => some ⟨false, false⟩
  | .otir => some ⟨true, true⟩
  | .otdr => some ⟨false, true⟩
  | _ => none

/-- alu[ ] (30_encoding.md R104). -/
inductive Alu where
  | add | adc | sub | sbc | and | xor | or | cp
  deriving DecidableEq, Repr

/-- The 8-bit ALU instructions: operation, operand, cycles (43_alu8.md R301 to R309). -/
def aluOf : Instr → Option (Alu × Src × Nat)
  | .addAR r => some (.add, .reg (.reg r), 4)
  | .addAN n => some (.add, .imm n, 7)
  | .addAMemHL => some (.add, .mem .hl, 7)
  | .addAMemXYd p d => some (.add, .mem (.disp p d), 19)
  | .addAXYH p => some (.add, .reg (.xyh p), 8)
  | .addAXYL p => some (.add, .reg (.xyl p), 8)
  | .adcAR r => some (.adc, .reg (.reg r), 4)
  | .adcAN n => some (.adc, .imm n, 7)
  | .adcAMemHL => some (.adc, .mem .hl, 7)
  | .adcAMemXYd p d => some (.adc, .mem (.disp p d), 19)
  | .adcAXYH p => some (.adc, .reg (.xyh p), 8)
  | .adcAXYL p => some (.adc, .reg (.xyl p), 8)
  | .subR r => some (.sub, .reg (.reg r), 4)
  | .subN n => some (.sub, .imm n, 7)
  | .subMemHL => some (.sub, .mem .hl, 7)
  | .subMemXYd p d => some (.sub, .mem (.disp p d), 19)
  | .subXYH p => some (.sub, .reg (.xyh p), 8)
  | .subXYL p => some (.sub, .reg (.xyl p), 8)
  | .sbcAR r => some (.sbc, .reg (.reg r), 4)
  | .sbcAN n => some (.sbc, .imm n, 7)
  | .sbcAMemHL => some (.sbc, .mem .hl, 7)
  | .sbcAMemXYd p d => some (.sbc, .mem (.disp p d), 19)
  | .sbcAXYH p => some (.sbc, .reg (.xyh p), 8)
  | .sbcAXYL p => some (.sbc, .reg (.xyl p), 8)
  | .andR r => some (.and, .reg (.reg r), 4)
  | .andN n => some (.and, .imm n, 7)
  | .andMemHL => some (.and, .mem .hl, 7)
  | .andMemXYd p d => some (.and, .mem (.disp p d), 19)
  | .andXYH p => some (.and, .reg (.xyh p), 8)
  | .andXYL p => some (.and, .reg (.xyl p), 8)
  | .xorR r => some (.xor, .reg (.reg r), 4)
  | .xorN n => some (.xor, .imm n, 7)
  | .xorMemHL => some (.xor, .mem .hl, 7)
  | .xorMemXYd p d => some (.xor, .mem (.disp p d), 19)
  | .xorXYH p => some (.xor, .reg (.xyh p), 8)
  | .xorXYL p => some (.xor, .reg (.xyl p), 8)
  | .orR r => some (.or, .reg (.reg r), 4)
  | .orN n => some (.or, .imm n, 7)
  | .orMemHL => some (.or, .mem .hl, 7)
  | .orMemXYd p d => some (.or, .mem (.disp p d), 19)
  | .orXYH p => some (.or, .reg (.xyh p), 8)
  | .orXYL p => some (.or, .reg (.xyl p), 8)
  | .cpR r => some (.cp, .reg (.reg r), 4)
  | .cpN n => some (.cp, .imm n, 7)
  | .cpMemHL => some (.cp, .mem .hl, 7)
  | .cpMemXYd p d => some (.cp, .mem (.disp p d), 19)
  | .cpXYH p => some (.cp, .reg (.xyh p), 8)
  | .cpXYL p => some (.cp, .reg (.xyl p), 8)
  | _ => none

/-- rot[ ] (30_encoding.md R104). -/
inductive Rot where
  | rlc | rrc | rl | rr | sla | sra | sll | srl
  deriving DecidableEq, Repr

/-- The operations that read a byte, change it and write it back. -/
inductive Rmw where
  | inc
  | dec
  | rot (k : Rot)
  | res (b : BitVec 3)
  | set (b : BitVec 3)
  deriving DecidableEq, Repr

/-- The operand of a read-modify-write instruction: a register, a byte of memory, or a byte of memory with the result also
copied to a register (45_rotate_bit.md R404, R427). -/
inductive RmwPlace where
  | reg (b : ByteReg)
  | mem (a : Addr)
  | copy (a : Addr) (r : Reg8)
  deriving DecidableEq, Repr

/-- The read-modify-write instructions: operation, operand, cycles (43_alu8.md R310 to R313; 45_rotate_bit.md R404 to R413, R425
to R427). -/
def rmwOf : Instr → Option (Rmw × RmwPlace × Nat)
  | .incR r => some (.inc, .reg (.reg r), 4)
  | .incXYH p => some (.inc, .reg (.xyh p), 8)
  | .incXYL p => some (.inc, .reg (.xyl p), 8)
  | .incMemHL => some (.inc, .mem .hl, 11)
  | .incMemXYd p d => some (.inc, .mem (.disp p d), 23)
  | .decR r => some (.dec, .reg (.reg r), 4)
  | .decXYH p => some (.dec, .reg (.xyh p), 8)
  | .decXYL p => some (.dec, .reg (.xyl p), 8)
  | .decMemHL => some (.dec, .mem .hl, 11)
  | .decMemXYd p d => some (.dec, .mem (.disp p d), 23)
  | .rlcR r => some (.rot .rlc, .reg (.reg r), 8)
  | .rlcMemHL => some (.rot .rlc, .mem .hl, 15)
  | .rlcMemXYd p d => some (.rot .rlc, .mem (.disp p d), 23)
  | .rlcMemXYdR p d r => some (.rot .rlc, .copy (.disp p d) r, 23)
  | .rrcR r => some (.rot .rrc, .reg (.reg r), 8)
  | .rrcMemHL => some (.rot .rrc, .mem .hl, 15)
  | .rrcMemXYd p d => some (.rot .rrc, .mem (.disp p d), 23)
  | .rrcMemXYdR p d r => some (.rot .rrc, .copy (.disp p d) r, 23)
  | .rlR r => some (.rot .rl, .reg (.reg r), 8)
  | .rlMemHL => some (.rot .rl, .mem .hl, 15)
  | .rlMemXYd p d => some (.rot .rl, .mem (.disp p d), 23)
  | .rlMemXYdR p d r => some (.rot .rl, .copy (.disp p d) r, 23)
  | .rrR r => some (.rot .rr, .reg (.reg r), 8)
  | .rrMemHL => some (.rot .rr, .mem .hl, 15)
  | .rrMemXYd p d => some (.rot .rr, .mem (.disp p d), 23)
  | .rrMemXYdR p d r => some (.rot .rr, .copy (.disp p d) r, 23)
  | .slaR r => some (.rot .sla, .reg (.reg r), 8)
  | .slaMemHL => some (.rot .sla, .mem .hl, 15)
  | .slaMemXYd p d => some (.rot .sla, .mem (.disp p d), 23)
  | .slaMemXYdR p d r => some (.rot .sla, .copy (.disp p d) r, 23)
  | .sraR r => some (.rot .sra, .reg (.reg r), 8)
  | .sraMemHL => some (.rot .sra, .mem .hl, 15)
  | .sraMemXYd p d => some (.rot .sra, .mem (.disp p d), 23)
  | .sraMemXYdR p d r => some (.rot .sra, .copy (.disp p d) r, 23)
  | .sllR r => some (.rot .sll, .reg (.reg r), 8)
  | .sllMemHL => some (.rot .sll, .mem .hl, 15)
  | .sllMemXYd p d => some (.rot .sll, .mem (.disp p d), 23)
  | .sllMemXYdR p d r => some (.rot .sll, .copy (.disp p d) r, 23)
  | .srlR r => some (.rot .srl, .reg (.reg r), 8)
  | .srlMemHL => some (.rot .srl, .mem .hl, 15)
  | .srlMemXYd p d => some (.rot .srl, .mem (.disp p d), 23)
  | .srlMemXYdR p d r => some (.rot .srl, .copy (.disp p d) r, 23)
  | .resR b r => some (.res b, .reg (.reg r), 8)
  | .resMemHL b => some (.res b, .mem .hl, 15)
  | .resMemXYd b p d => some (.res b, .mem (.disp p d), 23)
  | .resMemXYdR b p d r => some (.res b, .copy (.disp p d) r, 23)
  | .setR b r => some (.set b, .reg (.reg r), 8)
  | .setMemHL b => some (.set b, .mem .hl, 15)
  | .setMemXYd b p d => some (.set b, .mem (.disp p d), 23)
  | .setMemXYdR b p d r => some (.set b, .copy (.disp p d) r, 23)
  | _ => none

/-- The byte that a read-modify-write operand is read from. -/
def RmwPlace.src : RmwPlace → Src
  | .reg b => .reg b
  | .mem a => .mem a
  | .copy a _ => .mem a

/-- What a read-modify-write instruction leaves besides F when it writes `w` back: the register or the byte of memory, WZ where
the operand is (XY+d), the register of the copy, and every other byte register, every other byte of memory and the rest of the
CPU as they were. -/
def State.rmwLeaves (s : State) (place : RmwPlace) (w : Byte) (t : State) : Prop :=
  t.cpu = { s.cpu with main := t.cpu.main, ix := t.cpu.ix, iy := t.cpu.iy, wz := s.wzAfterRead place.src } ∧
  match place with
  | .reg b => t.byteReg b = w ∧ (∀ other, other ≠ b → t.byteReg other = s.byteReg other) ∧ s.KeepsAll s.io t
  | .mem a => (∀ other, t.byteReg other = s.byteReg other) ∧ s.Stores (s.readSrc (.mem a)).2 [(s.addrOf a, w)] t
  | .copy a r => t.byteReg (.reg r) = w ∧ (∀ other, other ≠ .reg r → t.byteReg other = s.byteReg other) ∧
      s.Stores (s.readSrc (.mem a)).2 [(s.addrOf a, w)] t

/-- Bit `k` of the result of a rotate or shift of `v` with the old carry `c` (45_rotate_bit.md R406 to R413). -/
def Rot.bit (kind : Rot) (v : Byte) (c : Bool) (k : Nat) : Bool :=
  match kind with
  | .rlc => v.getLsbD ((k + 7) % 8)
  | .rrc => v.getLsbD ((k + 1) % 8)
  | .rl => if k = 0 then c else v.getLsbD (k - 1)
  | .rr => if k = 7 then c else v.getLsbD (k + 1)
  | .sla => if k = 0 then false else v.getLsbD (k - 1)
  | .sra => if k = 7 then v.getLsbD 7 else v.getLsbD (k + 1)
  | .sll => if k = 0 then true else v.getLsbD (k - 1)
  | .srl => if k = 7 then false else v.getLsbD (k + 1)

/-- The bit that a rotate or shift of `v` moves out into C (45_rotate_bit.md R406 to R413). -/
def Rot.out (kind : Rot) (v : Byte) : Bool :=
  match kind with
  | .rlc | .rl | .sla | .sll => v.getLsbD 7
  | .rrc | .rr | .sra | .srl => v.getLsbD 0

/-- RLCA, RRCA, RLA, RRA (45_rotate_bit.md R400 to R403). -/
def rotAOf : Instr → Option Rot
  | .rlca => some .rlc
  | .rrca => some .rrc
  | .rla => some .rl
  | .rra => some .rr
  | _ => none

/-- BIT: bit, operand, cycles (45_rotate_bit.md R420 to R422). -/
def bitOf : Instr → Option (BitVec 3 × Src × Nat)
  | .bitR b r => some (b, .reg (.reg r), 8)
  | .bitMemHL b => some (b, .mem .hl, 12)
  | .bitMemXYd b p d _ => some (b, .mem (.disp p d), 20)
  | _ => none

/-- The word that ADD and the ED forms add or subtract, with the destination (44_alu16.md R350 to R353). -/
inductive Alu16 where
  | add | adc | sbc
  deriving DecidableEq, Repr

/-- The 16-bit arithmetic instructions: operation, destination, operand, cycles (44_alu16.md R350 to R353). -/
def alu16Of : Instr → Option (Alu16 × WordReg × WordReg × Nat)
  | .addHLRp rp => some (.add, .hl, pairReg rp, 11)
  | .addXYRp p rp => some (.add, indexReg p, xyPairReg p rp, 15)
  | .adcHLRp rp => some (.adc, .hl, pairReg rp, 15)
  | .sbcHLRp rp => some (.sbc, .hl, pairReg rp, 15)
  | _ => none

/-- Where a jump from `s` goes: whether it is taken, its target, what WZ holds after it, its cycles (46_control.md R451 to R454,
R456, R457). -/
def State.jumpOf (s : State) : Instr → Option (Bool × Word × Word × Nat)
  | .jp nn => some (true, nn, nn, 10)
  | .jpCc cc nn => some (condHolds cc s.f, nn, nn, 10)
  | .jr e => some (true, displaced s.cpu.pc e, displaced s.cpu.pc e, 12)
  | .jrCc cc e =>
    if condHolds cc s.f then some (true, displaced s.cpu.pc e, displaced s.cpu.pc e, 12)
    else some (false, displaced s.cpu.pc e, s.cpu.wz, 7)
  | .jpHL => some (true, s.hl, s.cpu.wz, 4)
  | .jpXY p => some (true, s.index p, s.cpu.wz, 8)
  | _ => none

/-- A call from `s`: whether it is taken, its target, its cycles (46_control.md R460, R461, R475). -/
def State.callOf (s : State) : Instr → Option (Bool × Word × Nat)
  | .call nn => some (true, nn, 17)
  | .callCc cc nn => if condHolds cc s.f then some (true, nn, 17) else some (false, nn, 10)
  | .rst y => some (true, BitVec.ofNat 16 (8 * y.toNat), 11)
  | _ => none

/-- A return from `s`: whether it is taken, IFF1 after it, its cycles (46_control.md R462, R463, R470). -/
def State.returnOf (s : State) : Instr → Option (Bool × Bool × Nat)
  | .ret => some (true, s.cpu.iff1, 10)
  | .retCc cc => if condHolds cc s.f then some (true, s.cpu.iff1, 11) else some (false, s.cpu.iff1, 5)
  | .retn _ => some (true, s.cpu.iff2, 14)
  | .reti => some (true, s.cpu.iff2, 14)
  | _ => none

/-- IN: the register written, the port, WZ, whether F is written, cycles (47_io.md R500, R502, R503). -/
def State.inOf (s : State) : Instr → Option (Option Reg8 × Word × Word × Bool × Nat)
  | .inAN n => some (some .a, s.a ++ n, (s.a ++ n) + 1, false, 11)
  | .inRC r => some (some r, s.bc, s.bc + 1, true, 12)
  | .inC => some (none, s.bc, s.bc + 1, true, 12)
  | _ => none

/-- OUT: the port, the byte, WZ, cycles (47_io.md R501, R504, R505). -/
def State.outOf (s : State) : Instr → Option (Word × Byte × Word × Nat)
  | .outNA n => some (s.a ++ n, s.a, s.a ++ (n + 1), 11)
  | .outCR r => some (s.bc, s.reg8 r, s.bc + 1, 12)
  | .outC0 => some (s.bc, 0x00, s.bc + 1, 12)
  | _ => none

/-- POP AF and EX AF,AF', which write all eight bits of F from a word (10_state.md R26, 41_load16_exchange.md R212, R215). -/
def movesF (i : Instr) : Bool := i == .popRp2 .af || i == .exAFAF

/-- Whether an instruction's rule computes flags (10_state.md R26). -/
def computesF : Instr → Bool
  | .daa | .cpl | .neg _ | .ccf | .scf | .rrd | .rld | .ldAI | .ldAR => true
  | i => (aluOf i).isSome || (alu16Of i).isSome || (rotAOf i).isSome || (bitOf i).isSome || (blockCopy i).isSome ||
    (blockSearch i).isSome || (blockIn i).isSome || (blockOut i).isSome || i == .inC ||
    (match rmwOf i with
     | some (.res _, _, _) | some (.set _, _, _) | none => false
     | some _ => true) ||
    (match i with
     | .inRC _ => true
     | _ => false)

/-- Whether an instruction's rule writes F (10_state.md R26). -/
def writesF (i : Instr) : Bool := computesF i || movesF i

/-! ### The device loops, as the spec writes them -/

/-- The loop of `timer.tick` (60_exceptions.md R626), at most `n` rounds. -/
def State.timerLoop : Nat → State → State
  | 0, s => s
  | n + 1, s =>
    if s.cfg.timerPeriod ≤ s.io.timer.count then
      State.timerLoop n ((s.setTimer ⟨s.io.timer.count - s.cfg.timerPeriod⟩).requestInterrupt s.cfg.intVector)
    else s

/-- One round of the loop of `video.tick` (60_exceptions.md R642). -/
def State.videoRound (s : State) : State :=
  let v := s.io.video.calling s.cfg .lineDone
  let regs := Config.videoLineDone v.line v.regs
  if v.line + 1 = s.cfg.linesPerFrame then
    s.setVideo ⟨0, v.dot - s.cfg.cyclesPerLine, v.frameCount + 1, regs, v.undef⟩
  else s.setVideo ⟨v.line + 1, v.dot - s.cfg.cyclesPerLine, v.frameCount, regs, v.undef⟩

/-- The loop of `video.tick` (60_exceptions.md R642), at most `n` rounds. -/
def State.videoLoop : Nat → State → State
  | 0, s => s
  | n + 1, s => if s.cfg.cyclesPerLine ≤ s.io.video.dot then State.videoLoop n s.videoRound else s

end Sys2Proof.Machine
end

