-- ==== Sys2Proof/Certificates/Slice0/Obligations.lean ====
section
/-! DEFINITION. The statements for the provers. A statement about an instruction says that `exec` answers a next state `t` and
what `t` holds; `s` is the state that `exec` is given, with PC already past the instruction (`FetchAdvances` and
`StepRunsDecoded` say how a step gets there), so that PC is the `next` of the rules and PC - 2 the A0 of a two-byte instruction.
The tables of Sys2Proof/Safety.lean name the instructions that a statement covers. -/

open Sys2Proof Sys2Proof.Machine

/-! ### Encoding -/

/-- Decoding the bytes of a well-formed instruction gives it back, whatever bytes follow (30_encoding.md R100 to R113). After an
ignored index prefix the next byte must be one that leaves it ignored (R111). -/
def Obligations.DecodeOfEncode : Prop :=
  ∀ (i : Instr) (rest : List Byte), i.wf = true → i.mayPrecede rest → decode (encode i ++ rest) = .ok i

/-- Whatever bytes decode, the instruction is well formed and its encoding is the bytes it came from: no bit of them is dropped
(30_encoding.md R100 to R114). -/
def Obligations.EncodeOfDecode : Prop :=
  ∀ (bs : List Byte) (i : Instr), decode bs = .ok i →
    i.wf = true ∧ i.length ≤ bs.length ∧ encode i = bs.take i.length

/-- Every four bytes decode, and the instruction is the one of the row of the opcode table that R115 chooses: its name, its
length and its cycle counts (30_encoding.md R115, R117). -/
def Obligations.DecodeFollowsTable : Prop :=
  ∀ b0 b1 b2 b3 : Byte, ∃ (row : OpcodeRow) (i : Instr), decode [b0, b1, b2, b3] = .ok i ∧
    row.chosenFor [b0, b1, b2, b3] ∧ row.mnemonic = i.mnemonic ∧ row.length = i.length ∧
    row.cycles = i.tableCycles

/-- A few words written out from the encodings of the instruction rules decode to the instructions they stand for: one of each
family (R153, R207, R218, R250, R302, R351, R427, R422, R454, R505, R555, R571). -/
def Obligations.SampleWords : Prop :=
  decode [0xFD, 0x2E, 0x07] = .ok (.ldXYLN .iy 0x07) ∧
  decode [0xED, 0x73, 0x00, 0x40] = .ok (.ldMemNnRp 0x4000 .sp) ∧
  decode [0xDD, 0xE3] = .ok (.exMemSPXY .ix) ∧
  decode [0xED, 0xA0] = .ok .ldi ∧
  decode [0xFD, 0x86, 0xFE] = .ok (.addAMemXYd .iy 0xFE) ∧
  decode [0xDD, 0x29] = .ok (.addXYRp .ix .xy) ∧
  decode [0xDD, 0xCB, 0x03, 0x00] = .ok (.rlcMemXYdR .ix 0x03 .b) ∧
  decode [0xDD, 0xCB, 0x08, 0x46] = .ok (.bitMemXYd 0 .ix 0x08 6) ∧
  decode [0x38, 0x02] = .ok (.jrCc .c 0x02) ∧
  decode [0xED, 0x71] = .ok .outC0 ∧
  decode [0xED, 0x5E] = .ok (.im 3) ∧
  decode [0xED, 0x00] = .ok (.noni 0x00)

/-! ### The step -/

/-- When a running machine without wait states has bytes at PC that decode to `i` and its boundary chooses to execute, the step is
`exec` of `i` after its fetch, with the devices ticked after it (60_exceptions.md R600, R621); where the step or the ticks reached a
video behaviour that VIDEO_DEV leaves undefined, it is refused (R607). -/
def Obligations.StepRunsDecoded : Prop :=
  ∀ (s : State) (i : Instr), s.life = .running → s.cfg.waitStates = 0 → s.stepKind = .instruction →
    decode s.bytesAtPc = .ok i →
    step s = match exec i (s.fetched i) with
      | .next t => if t.tickDevices.io.video.undef = true then .refused .videoUndefined else .next t.tickDevices
      | .fault r => .fault r
      | .refused r => .refused r

/-- What the fetch leaves: PC past the instruction modulo 2^16, R advanced once for each M1 cycle of the format, the inhibit bits
clear (the step sets one again if it is EI or an ignored prefix), and nothing else but what reading the bytes does to a device
(10_state.md R27, R31, R34; 30_encoding.md R100). -/
def Obligations.FetchAdvances : Prop :=
  ∀ (s : State) (i : Instr),
    (s.fetched i).cpu = { s.cpu with
      pc := BitVec.ofNat 16 (s.cpu.pc.toNat + i.length)
      r := refreshBy s.cpu.r i.format.m1Fetches
      eiInhibit := false
      prefixInhibit := false } ∧
    s.KeepsAll (State.readBytes i.length s.cpu.pc s).2.io (s.fetched i)

/-- What the boundary chooses (60_exceptions.md R600, R602, R603), and what each choice does; a halted idle step is 4 cycles and one
refresh, no bus access and no other change (48_cpu_control.md R552). -/
def Obligations.BoundaryChoice : Prop :=
  ∀ s : State,
    (s.stepKind = .nmi ↔ s.cpu.nmiPending = true ∧ s.cpu.prefixInhibit = false) ∧
    (s.stepKind = .int ↔ ¬(s.cpu.nmiPending = true ∧ s.cpu.prefixInhibit = false) ∧
      s.cpu.intPending = true ∧ s.cpu.iff1 = true ∧ s.cpu.eiInhibit = false ∧ s.cpu.prefixInhibit = false) ∧
    (s.stepKind = .idle → s.cpu.halted = true) ∧
    (s.stepKind = .instruction → s.cpu.halted = false) ∧
    (s.stepKind = .nmi → cpuStep s = .next s.acceptNmi) ∧
    (s.stepKind = .int → cpuStep s = s.acceptInt) ∧
    (s.stepKind = .idle → cpuStep s = .next { s with
      cpu := { s.cpu with r := refreshBy s.cpu.r 1, eiInhibit := false, prefixInhibit := false }
      stepCycles := 4 }) ∧
    (s.stepKind = .instruction → cpuStep s = exec s.nextInstr (s.fetched s.nextInstr))

/-- The NMI acceptance: 11 cycles; PC pushed, high byte at the higher address; PC and WZ at 0x0066; IFF1 cleared, IFF2 and the
maskable latch kept; HALTED cleared; R advanced once (60_exceptions.md R615). -/
def Obligations.NmiAcceptance : Prop :=
  ∀ s : State, s.life = .running → s.cfg.waitStates = 0 → s.stepKind = .nmi →
    ∃ t : State, cpuStep s = .next t ∧ (s.videoDefined → step s = .next t.tickDevices) ∧ t.stepCycles = 11 ∧
      t.cpu = { s.cpu with
        nmiPending := false
        halted := false
        iff1 := false
        r := refreshBy s.cpu.r 1
        sp := s.cpu.sp - 2
        pc := 0x0066
        wz := 0x0066
        eiInhibit := false
        prefixInhibit := false } ∧
      s.Stores s.io [(s.cpu.sp - 1, hi s.cpu.pc), (s.cpu.sp - 2, lo s.cpu.pc)] t

/-- The maskable acceptance in mode 1, and in mode 0 with an RST opcode as vector byte: 13 cycles; both IFF cleared, the latch
cleared, HALTED cleared, R advanced once, PC pushed; PC and WZ at 0x0038, or at the RST's target (60_exceptions.md R610, R611,
R612). -/
def Obligations.MaskableAcceptance : Prop :=
  ∀ s : State, s.life = .running → s.cfg.waitStates = 0 → s.stepKind = .int →
    (s.cpu.im = .im1 ∨ s.cpu.im = .im0 ∧ ∃ k : BitVec 3, s.cpu.intVec = 0b11#2 ++ k ++ 0b111#3) →
    ∃ (t : State) (target : Word), cpuStep s = .next t ∧ (s.videoDefined → step s = .next t.tickDevices) ∧ t.stepCycles = 13 ∧
      (s.cpu.im = .im1 → target = 0x0038) ∧
      (s.cpu.im = .im0 → target.toNat = 8 * (s.cpu.intVec.toNat / 8 % 8)) ∧
      t.cpu = { s.cpu with
        intPending := false
        iff1 := false
        iff2 := false
        halted := false
        r := refreshBy s.cpu.r 1
        sp := s.cpu.sp - 2
        pc := target
        wz := target
        eiInhibit := false
        prefixInhibit := false } ∧
      s.Stores s.io [(s.cpu.sp - 1, hi s.cpu.pc), (s.cpu.sp - 2, lo s.cpu.pc)] t

/-- The maskable acceptance in mode 2: 19 cycles; after the push the handler's address is read at I:vector, low byte first, all
eight bits of the vector used (60_exceptions.md R610, R613). -/
def Obligations.VectoredAcceptance : Prop :=
  ∀ s : State, s.life = .running → s.cfg.waitStates = 0 → s.stepKind = .int → s.cpu.im = .im2 →
    let pushed := State.writeAll [(s.cpu.sp - 1, hi s.cpu.pc), (s.cpu.sp - 2, lo s.cpu.pc)] s
    let low := pushed.memRead (s.cpu.i ++ s.cpu.intVec)
    let high := low.2.memRead (s.cpu.i ++ s.cpu.intVec + 1)
    ∃ t : State, cpuStep s = .next t ∧ (s.videoDefined → step s = .next t.tickDevices) ∧ t.stepCycles = 19 ∧
      t.cpu = { s.cpu with
        intPending := false
        iff1 := false
        iff2 := false
        halted := false
        r := refreshBy s.cpu.r 1
        sp := s.cpu.sp - 2
        pc := high.1 ++ low.1
        wz := high.1 ++ low.1
        eiInhibit := false
        prefixInhibit := false } ∧
      s.Stores s.io [(s.cpu.sp - 1, hi s.cpu.pc), (s.cpu.sp - 2, lo s.cpu.pc)] pushed ∧
      pushed.KeepsAll high.2.io t

/-- What stops, by its name: wait states, a mode-0 acknowledge whose vector byte is no RST opcode, a video behaviour that VIDEO_DEV
leaves undefined (60_exceptions.md R607, R611); init of a configuration with a broken region table, a ROM_IMAGE of another size
than the ROM regions or wait states (20_memory.md R63; 60_exceptions.md R650); every call outside Running but init, and init of a
discarded machine (60_exceptions.md R654). The model's own reading: that a step is such a call, refused outside Running ahead of wait
states (log 15, DEDUCED), and that a bad configuration is what Config.check names, the ROM backings of banks counted as ROM regions
(log 17, DEDUCED). -/
def Obligations.StopsByName : Prop :=
  (∀ s : State, s.life ≠ .running → step s = .refused .callNotAdmitted) ∧
  (∀ s : State, s.life = .running → s.cfg.waitStates ≠ 0 → step s = .refused .waitStates) ∧
  (∀ s : State, s.life = .running → s.cfg.waitStates = 0 → s.stepKind = .int → s.cpu.im = .im0 →
    (∀ k : BitVec 3, s.cpu.intVec ≠ 0b11#2 ++ k ++ 0b111#3) → step s = .refused (.modeZeroVector s.cpu.intVec)) ∧
  (∀ s t : State, s.life = .running → s.cfg.waitStates = 0 → cpuStep s = .next t → t.tickDevices.io.video.undef = true →
    step s = .refused .videoUndefined) ∧
  (∀ (s : State) (cfg : Config) (dr : ResetDraws) (e : ConfigError), s.life ≠ .discarded → cfg.check = some e →
    initMachine s cfg dr = .fault (.configError e)) ∧
  (∀ (s : State) (cfg : Config) (dr : ResetDraws), s.life ≠ .discarded →
    tableBroken cfg.memMap 0x10000 ∨ tableBroken cfg.ioMap (cfg.ioDecodeMask.toNat + 1) ∨ cfg.rom.size ≠ romTotal cfg ∨
      cfg.waitStates ≠ 0 →
    ∃ e : ConfigError, initMachine s cfg dr = .fault (.configError e)) ∧
  (∀ (s : State) (cfg : Config) (dr : ResetDraws), s.life = .discarded → initMachine s cfg dr = .refused .callNotAdmitted) ∧
  (∀ (s : State) (us code : Nat) (rec : Snapshot), s.life ≠ .running →
    execFor s us = .refused .callNotAdmitted ∧ keyDown s code = .refused .callNotAdmitted ∧
    keyUp s code = .refused .callNotAdmitted ∧ displayInfo s = .refused .callNotAdmitted ∧
    saveSnapshot s = .refused .callNotAdmitted ∧ loadSnapshot s rec = .refused .callNotAdmitted ∧
    discard s = .refused .callNotAdmitted) ∧
  (∀ s : State, s.life = .running → VideoCall.geometry ∈ s.cfg.videoUndefined → displayInfo s = .refused .videoUndefined)

/-- The ticks of the timer and of the beam are the loops that R626 and R642 write (60_exceptions.md R626, R642). -/
def Obligations.DeviceLoops : Prop :=
  (∀ (s : State) (c n : Nat), 0 < s.cfg.timerPeriod → s.io.timer.count + c ≤ n →
    s.tickTimer c = State.timerLoop n (s.setTimer ⟨s.io.timer.count + c⟩)) ∧
  (∀ (s : State) (c n : Nat), 0 < s.cfg.cyclesPerLine → s.io.video.dot + c ≤ n →
    s.tickVideo c = State.videoLoop n (s.setVideo { s.io.video with dot := s.io.video.dot + c }))

/-! ### Reset and invariants -/

/-- What init leaves, in any configuration that it accepts and for any draws: the values R41 to R47 of 10_state.md and R700 of
70_reset_and_hazards.md give, the clock and lifecycle of R650 of 60_exceptions.md, and every open register and RAM byte as drawn. The
model's own: `Config.videoReset` is the empty list, its coding of VIDEO_DEV.reset (log 5, DESIGN CHOICE), no undefined video behaviour
is reached (log 24, DESIGN CHOICE), and the count of draws goes on, so that a second init repeats no draw (log 8, DESIGN CHOICE). -/
def Obligations.ResetValues : Prop :=
  ∀ (s : State) (cfg : Config) (dr : ResetDraws), s.life ≠ .discarded → cfg.check = none →
    ∃ t : State, initMachine s cfg dr = .next t ∧
      t.cpu.pc = 0x0000 ∧ t.cpu.i = 0x00 ∧ t.cpu.r = 0x00 ∧ t.cpu.iff1 = false ∧ t.cpu.iff2 = false ∧ t.cpu.im = .im0 ∧
      t.cpu.halted = false ∧ t.cpu.eiInhibit = false ∧ t.cpu.prefixInhibit = false ∧
      t.cpu.nmiPending = false ∧ t.cpu.intPending = false ∧ t.cpu.intVec = 0xFF ∧
      t.cpu.main = dr.main ∧ t.cpu.shadow = dr.shadow ∧ t.cpu.ix = dr.ix ∧ t.cpu.iy = dr.iy ∧ t.cpu.sp = dr.sp ∧
      t.cpu.wz = dr.wz ∧ t.mem.ram = dr.ram ∧ t.mem.bankSel.length = cfg.banks.length ∧ (∀ j ∈ t.mem.bankSel, j = 0) ∧
      t.io.kbd.selRow = 0 ∧ t.io.kbd.matrix.length = cfg.kbdRows ∧ (∀ row ∈ t.io.kbd.matrix, row = 0) ∧
      t.io.timer.count = 0 ∧ t.io.video.line = 0 ∧ t.io.video.dot = 0 ∧ t.io.video.frameCount = 0 ∧
      t.io.video.regs = Config.videoReset ∧ t.io.video.undef = false ∧ t.draws = s.draws ∧
      t.io.pio.outLatch.length = cfg.pioOutPorts.length ∧ (∀ v ∈ t.io.pio.outLatch, v = 0x00) ∧
      t.clock = ⟨0, 0⟩ ∧ t.life = .running ∧ t.cfg = cfg

/-- The invariants hold of the machine after reset, in the default configuration and in every other that init accepts (the RAM
draws being bytes of that configuration's RAM). -/
def Obligations.ResetInvariant : Prop :=
  State.reset.Inv ∧ State.reset.Beam ∧ State.reset.rstVectors ∧
  (∀ (cfg : Config) (dr : ResetDraws), cfg.check = none → ramStoreOk cfg dr.ram = true →
    (State.initial cfg dr).Inv ∧ (State.initial cfg dr).Beam) ∧
  ∀ (s t : State) (cfg : Config) (dr : ResetDraws), initMachine s cfg dr = .next t → ramStoreOk cfg dr.ram = true →
    t.Inv ∧ t.Beam

/-- Every step keeps the invariant, from every state that has it: the RAM store stays canonical and within the RAM regions, every
device counter in its range, timer and beam at the same time, IFF1 set only under IFF2, at most one inhibit bit and none while halted,
no step above 23 cycles. -/
def Obligations.StepKeepsInvariant : Prop :=
  ∀ s t : State, s.Inv → step s = .next t → t.Inv

/-- The timer and the beam keep the same time through every step, the executed count is that time, and a step requests the
interrupt exactly when its tick ends a frame (60_exceptions.md R626, R642). -/
def Obligations.StepKeepsBeam : Prop :=
  (∀ s t : State, s.Inv → s.Beam → step s = .next t → t.Beam) ∧
  (∀ s : State, s.Inv → s.Beam → s.cpu.intPending = false →
    (s.tickDevices.cpu.intPending = true ↔ s.tickDevices.io.video.frameCount ≠ s.io.video.frameCount))

/-- The machine never stops: from every state with the invariant, while the vector bytes are RST opcodes and VIDEO_DEV leaves no
behaviour undefined, any number of steps runs without a fault or a refusal (60_exceptions.md R606, R607; 30_encoding.md R114: "A model
refuses nothing at decode"). -/
def Obligations.RunsForEver : Prop :=
  ∀ (s : State) (n : Nat), s.Inv → s.life = .running → s.rstVectors → s.cfg.videoUndefined = [] → s.runsFor n

/-- The cycle accounting law of exec (60_exceptions.md R651, R652): the executed count ends at the target, or past it by less than
the largest cost of a step, and what exec returns is what it executed. -/
def Obligations.ExecAccounting : Prop :=
  ∀ (s t : State) (us n : Nat), s.clock.executed < s.target + 23 → execFor s us = .next (n, t) →
    t.clock.elapsedUs = s.clock.elapsedUs + us ∧
    t.target = (s.clock.elapsedUs + us) * s.cfg.cpuFreqHz / 1000000 ∧
    t.target ≤ t.clock.executed ∧ t.clock.executed < t.target + 23 ∧
    s.clock.executed + n = t.clock.executed

/-- Saving, then loading into a running machine of the same configuration, restores the CPU, memory and devices and keeps the clock
and lifecycle; a record with another header is answered false with nothing changed; a record with a matching header whose body is not
what a save of a machine of this configuration saved is refused, and a machine that took a record has the invariant
(60_exceptions.md R607, R656 to R658). That a record carries its origin beside its bytes is the model's (log 10, DESIGN CHOICE). -/
def Obligations.SnapshotRestores : Prop :=
  (∀ s u : State, s.Inv → s.life = .running → u.life = .running → u.cfg = s.cfg →
    ∃ rec : Snapshot, saveSnapshot s = .next rec ∧
      loadSnapshot u rec = .next (true, { u with cpu := s.cpu, mem := s.mem, io := s.io })) ∧
  (∀ (s : State) (rec : Snapshot), s.life = .running →
    (rec.version ≠ Config.snapshotVersion ∨ rec.size ≠ Config.snapshotSize) → loadSnapshot s rec = .next (false, s)) ∧
  (∀ (s : State) (rec : Snapshot), s.life = .running → rec.version = Config.snapshotVersion → rec.size = Config.snapshotSize →
    rec.origin ≠ some (s.cfg, rec.body) → loadSnapshot s rec = .refused .snapshotNotSaved) ∧
  (∀ (s t : State) (rec : Snapshot), s.Inv → loadSnapshot s rec = .next (true, t) →
    t.Inv ∧ rec.origin = some (t.cfg, ⟨t.cpu, t.mem, t.io⟩) ∧ t.cfg = s.cfg ∧ t.clock = s.clock ∧ t.life = s.life)

/-! ### The bus -/

/-- The default map (20_memory.md R65, R74, R77): ROM below 0x4000, RAM below 0x8000, nothing above; of a port only the low byte
counts, the keyboard's rows at 0x80 to 0x87, the video registers at 0x8F and 0xCF, the PIO at 0xAF, nothing at any other. -/
def Obligations.DefaultMap : Prop :=
  ∀ s : State, s.cfg = Config.default →
    (∀ a : Word, s.memTarget a =
      if a.toNat < 0x4000 then .rom a.toNat else if a.toNat < 0x8000 then .ram a.toNat else .unmapped) ∧
    (∀ port : Word, s.ioTarget port =
      let p := port.toNat % 256
      if 0x80 ≤ p ∧ p ≤ 0x87 then .device (.kbd (p - 0x80))
      else if p = 0x8F then .device (.video 0)
      else if p = 0xAF then .device (.pio 0)
      else if p = 0xCF then .device (.video 1)
      else .unmapped)

/-- Reads and writes by the kind of the region (20_memory.md R66, R67, R75, R76): RAM holds what was last written, ROM and unmapped
addresses ignore writes, a device register is read and written by its device (60_exceptions.md R620). The keyboard's read selects the
row and gives its columns, 0 for a key held (R630), and its write changes nothing (R631); a video read or write replaces regs by what
VIDEO_DEV gives and nothing else (R641), marking a behaviour that VIDEO_DEV leaves undefined (R607, log 24); a PIO read gives the input
lines, a free value at each read, and changes no latch (R646, log 6), and a PIO write sets the register's latch alone (R645). A write
to a bank's select register sets that bank's selection, to a free index of its backings, and no other (20_memory.md R68, log 9). The
model's own, beyond R630's columns 0 to KBD_COLS - 1 of existing rows: the keyboard's other bits, and every bit of a row past KBD_ROWS,
read as the matrix lists them, 1 where it lists none (log 18, DESIGN CHOICE). -/
def Obligations.BusAccess : Prop :=
  ∀ (s : State) (a : Word) (v : Byte), s.mem.ram.wf = true →
    (∀ key, s.memTarget a = .ram key → s.memRead a = (s.mem.ram.read key, s) ∧
      (s.memWrite a v).memRead a = (v, s.memWrite a v) ∧
      ∀ key', key' ≠ key → (s.memWrite a v).mem.ram.read key' = s.mem.ram.read key') ∧
    (∀ off, s.memTarget a = .rom off → s.memRead a = (romRead s.cfg.rom off, s) ∧ s.memWrite a v = s) ∧
    (s.memTarget a = .unmapped → s.memRead a = (s.cfg.fillByte, s) ∧ s.memWrite a v = s) ∧
    (∀ reg, s.memTarget a = .device reg → s.memRead a = s.devRead reg ∧ s.memWrite a v = s.devWrite reg v) ∧
    (∀ reg, s.ioTarget a = .device reg → s.ioRead a = s.devRead reg ∧ s.ioWrite a v = s.devWrite reg v) ∧
    (s.ioTarget a = .unmapped → s.ioRead a = (s.cfg.fillByte, s) ∧ s.ioWrite a v = s) ∧
    (∀ row, (s.devRead (.kbd row)).2 = { s with io := { s.io with kbd := { s.io.kbd with selRow := row } } } ∧
      ∀ j < 8, (s.devRead (.kbd row)).1.getLsbD j = !(s.io.kbd.matrix.getD row 0).getLsbD j) ∧
    (∀ k, (s.devRead (.video k)).1 = (Config.videoRead k s.io.video.regs).1 ∧
      (s.devRead (.video k)).2 = { s with io := { s.io with video := { s.io.video with
        regs := (Config.videoRead k s.io.video.regs).2
        undef := s.io.video.undef || decide (VideoCall.read k ∈ s.cfg.videoUndefined) } } }) ∧
    (∀ k, s.devRead (.pio k) = (Config.pioLines k s.draws, { s with draws := s.draws + 1 })) ∧
    (∀ reg, ∃ sel : List Nat, s.devWrite reg v = { s with
        mem := { s.mem with bankSel := sel }
        io := match reg with
          | .kbd _ => s.io
          | .video k => { s.io with video := { s.io.video with
              regs := Config.videoWrite k v s.io.video.regs
              undef := s.io.video.undef || decide (VideoCall.write k ∈ s.cfg.videoUndefined) } }
          | .pio k => { s.io with pio := ⟨s.io.pio.outLatch.set k v⟩ } } ∧
      sel.length = s.mem.bankSel.length ∧
      ∀ (k j : Nat) (bank : Bank), s.cfg.banks[k]? = some bank → s.mem.bankSel[k]? = some j →
        sel[k]? = some (if bank.select = reg then Config.bankIndex k v % bank.backings.length else j))

/-- In a configuration that init accepts no two addresses are the same RAM byte, whatever the banks select (20_memory.md R63,
R68; 10_state.md R39). -/
def Obligations.RamBytesApart : Prop :=
  ∀ (s : State) (a b : Word) (key : Nat), s.cfg.check = none →
    s.memTarget a = .ram key → s.memTarget b = .ram key → a = b

/-- A key event and the port read that sees it (60_exceptions.md R630, R632, R633), with the default map, a key that KEYMAP gives a
place and no other key down: IN A,(0x80 + row) reads 0xFF with the key's column cleared, and 0xFF after key_up. -/
def Obligations.KeyboardReads : Prop :=
  ∀ (s : State) (code : Nat) (k : KeyPos), s.cfg = { Config.default with keymap := s.cfg.keymap } → s.life = .running →
    keyPosOf s.cfg code = some k → k.row < 8 → k.col < 8 → s.io.kbd.matrix = List.replicate 8 0 →
    ∃ d u : State, keyDown s code = .next d ∧ keyUp d code = .next u ∧ u.io.kbd = s.io.kbd ∧
      (∃ t : State, exec (.inAN (BitVec.ofNat 8 (0x80 + k.row))) d = .next t ∧
        ∀ j < 8, t.a.getLsbD j = !decide (j = k.col)) ∧
      (∃ t : State, exec (.inAN (BitVec.ofNat 8 (0x80 + k.row))) u = .next t ∧ t.a = 0xFF)

/-! ### Rules of the whole machine -/

/-- Every instruction completes, on every state, in one of the numbers of cycles that the opcode table gives it, never more than 23
(30_encoding.md R114, R117; 60_exceptions.md R606; 70_reset_and_hazards.md R720). -/
def Obligations.CyclesFollowTable : Prop :=
  ∀ (i : Instr) (s : State), ∃ t : State, exec i s = .next t ∧ t.stepCycles ∈ i.tableCycles ∧
    4 ≤ t.stepCycles ∧ t.stepCycles ≤ 23

/-- Under XY_EXACT = false an instruction that writes F leaves the next two free bits in Y and X, and does everything else as under
XY_EXACT = true; an instruction that writes none is not affected (00_scope.md R13; 10_state.md R26). That the free bits are numbered
by `draws`, and that a write of F' is none of F, are the model's (log 8, DESIGN CHOICE; log 7, DEDUCED). -/
def Obligations.FreeFlagBits : Prop :=
  ∀ (i : Instr) (s t u : State), exec i (s.withXyExact true) = .next t → exec i (s.withXyExact false) = .next u →
    documentedFlags u.f = documentedFlags t.f ∧
    u.withXyExact true = { t with cpu := { t.cpu with main := { t.cpu.main with f := u.f } }, draws := u.draws } ∧
    (writesF i = true → flagY u.f = Config.freeBit t.draws ∧ flagX u.f = Config.freeBit (t.draws + 1) ∧
      u.draws = t.draws + 2) ∧
    (writesF i = false → u.f = t.f ∧ u.draws = t.draws)

/-- Which instructions write the registers beside the general ones, and F (10_state.md R22, R26, R28, R29, R30, R32, R33, R36,
R37): no other instruction changes them, and none changes the configuration, the clock, the lifecycle or an interrupt latch. -/
def Obligations.OnlyWrittenBy : Prop :=
  ∀ (i : Instr) (s t : State), exec i s = .next t →
    t.cfg = s.cfg ∧ t.clock = s.clock ∧ t.life = s.life ∧
    t.cpu.intPending = s.cpu.intPending ∧ t.cpu.intVec = s.cpu.intVec ∧ t.cpu.nmiPending = s.cpu.nmiPending ∧
    (writesF i = false → t.f = s.f) ∧
    (i ≠ .exAFAF → i ≠ .exx → t.cpu.shadow = s.cpu.shadow) ∧
    (i ≠ .ldIA → t.cpu.i = s.cpu.i) ∧ (i ≠ .ldRA → t.cpu.r = s.cpu.r) ∧
    ((∀ y, i ≠ .im y) → t.cpu.im = s.cpu.im) ∧ (i ≠ .halt → t.cpu.halted = s.cpu.halted) ∧
    (i ≠ .di → i ≠ .ei → t.cpu.iff2 = s.cpu.iff2) ∧
    (i ≠ .di → i ≠ .ei → i ≠ .reti → (∀ y, i ≠ .retn y) → t.cpu.iff1 = s.cpu.iff1) ∧
    (i ≠ .ei → (∀ p, i ≠ .prefixIgnored p) →
      t.cpu.eiInhibit = s.cpu.eiInhibit ∧ t.cpu.prefixInhibit = s.cpu.prefixInhibit)

/-! ### 8-bit and 16-bit loads -/

/-- The 8-bit loads of a register: the destination takes the source's byte; F, every other byte register, memory and the rest of
the CPU but WZ stay (40_load8.md R150 to R155, R160 to R162). -/
def Obligations.ByteLoads : Prop :=
  ∀ (i : Instr) (dst : ByteReg) (src : Src) (cycles : Nat) (s : State), byteLoad i = some (dst, src, cycles) →
    ∃ t : State, exec i s = .next t ∧ t.stepCycles = cycles ∧
      t.byteReg dst = (s.readSrc src).1 ∧ (∀ other, other ≠ dst → t.byteReg other = s.byteReg other) ∧ t.f = s.f ∧
      t.cpu = { s.cpu with main := t.cpu.main, ix := t.cpu.ix, iy := t.cpu.iy, wz := s.wzAfterRead src } ∧
      s.KeepsAll (s.readSrc src).2 t

/-- The 8-bit stores: the byte goes to the operand's address; no register but WZ changes (40_load8.md R156 to R159, R163 to
R165). -/
def Obligations.ByteStores : Prop :=
  ∀ (i : Instr) (addr : Addr) (src : Src) (cycles : Nat) (s : State), byteStore i = some (addr, src, cycles) →
    ∃ t : State, exec i s = .next t ∧ t.stepCycles = cycles ∧
      t.cpu = { s.cpu with wz := s.wzAfterWrite (s.readSrc src).1 addr } ∧
      s.Stores s.io [(s.addrOf addr, (s.readSrc src).1)] t

/-- The 16-bit loads of a register from a register or an immediate, and INC and DEC of a word modulo 2^16: no flag, no other
register (41_load16_exchange.md R200, R201, R208, R209; 44_alu16.md R354 to R357). -/
def Obligations.WordMoves : Prop :=
  ∀ (i : Instr) (dst : WordReg) (src : WordSrc) (cycles : Nat) (s : State), wordMove i = some (dst, src, cycles) →
    ∃ t : State, exec i s = .next t ∧ t.stepCycles = cycles ∧
      t.wordReg dst = s.wordSrc src ∧ (∀ other, other ≠ dst → t.wordReg other = s.wordReg other) ∧
      t.a = s.a ∧ t.f = s.f ∧
      t.cpu = { s.cpu with main := t.cpu.main, ix := t.cpu.ix, iy := t.cpu.iy, sp := t.cpu.sp } ∧
      s.KeepsAll s.io t

/-- The 16-bit loads from memory: low byte read at nn, then the high byte at nn + 1; WZ takes nn + 1 (41_load16_exchange.md R202 to
R204). -/
def Obligations.WordLoads : Prop :=
  ∀ (i : Instr) (dst : WordReg) (nn : Word) (cycles : Nat) (s : State), wordLoad i = some (dst, nn, cycles) →
    let low := s.memRead nn
    let high := low.2.memRead (nn + 1)
    ∃ t : State, exec i s = .next t ∧ t.stepCycles = cycles ∧
      t.wordReg dst = high.1 ++ low.1 ∧ (∀ other, other ≠ dst → t.wordReg other = s.wordReg other) ∧
      t.a = s.a ∧ t.f = s.f ∧
      t.cpu = { s.cpu with main := t.cpu.main, ix := t.cpu.ix, iy := t.cpu.iy, sp := t.cpu.sp, wz := nn + 1 } ∧
      s.KeepsAll high.2.io t

/-- The 16-bit stores: the low byte at nn, then the high byte at nn + 1; no register but WZ changes (41_load16_exchange.md R205 to
R207). -/
def Obligations.WordStores : Prop :=
  ∀ (i : Instr) (nn : Word) (src : WordReg) (cycles : Nat) (s : State), wordStore i = some (nn, src, cycles) →
    ∃ t : State, exec i s = .next t ∧ t.stepCycles = cycles ∧ t.cpu = { s.cpu with wz := nn + 1 } ∧
      s.Stores s.io [(nn, lo (s.wordReg src)), (nn + 1, hi (s.wordReg src))] t

/-- PUSH: the high byte at SP - 1, then the low byte at SP - 2, and SP there; no other register (41_load16_exchange.md R210,
R211). -/
def Obligations.Pushes : Prop :=
  ∀ (i : Instr) (src : StackReg) (cycles : Nat) (s : State), pushOf i = some (src, cycles) →
    ∃ t : State, exec i s = .next t ∧ t.stepCycles = cycles ∧ t.cpu = { s.cpu with sp := s.cpu.sp - 2 } ∧
      s.Stores s.io [(s.cpu.sp - 1, hi (s.stackReg src)), (s.cpu.sp - 2, lo (s.stackReg src))] t

/-- POP: the word at SP, low byte first, and SP past it; POP AF writes all eight bits of F, Y and X under XY_EXACT; no other register
(41_load16_exchange.md R212, R213; 10_state.md R26; 00_scope.md R13). -/
def Obligations.Pops : Prop :=
  ∀ (i : Instr) (dst : StackReg) (cycles : Nat) (s : State), popOf i = some (dst, cycles) →
    let low := s.memRead s.cpu.sp
    let high := low.2.memRead (s.cpu.sp + 1)
    ∃ t : State, exec i s = .next t ∧ t.stepCycles = cycles ∧
      (if dst = .af then t.a = high.1 ∧ t.fWritten low.1 else t.stackReg dst = high.1 ++ low.1) ∧
      (∀ other, other ≠ dst → t.stackReg other = s.stackReg other) ∧
      t.cpu = { s.cpu with main := t.cpu.main, ix := t.cpu.ix, iy := t.cpu.iy, sp := s.cpu.sp + 2 } ∧
      s.KeepsAll high.2.io t

/-- EX DE,HL, EX AF,AF' and EXX: their opcodes, the registers they exchange, 4 cycles, and nothing else (41_load16_exchange.md R214
to R216). EX AF,AF' writes F, so that without XY_EXACT its bits Y and X are free (00_scope.md R13). That F' takes all eight bits of F
without XY_EXACT too is the model's reading (log 7, DEDUCED). -/
def Obligations.Exchanges : Prop :=
  encode .exDEHL = [0xEB] ∧ encode .exAFAF = [0x08] ∧ encode .exx = [0xD9] ∧
  ∀ s : State,
    exec .exDEHL s = .next { s with
      cpu := { s.cpu with main := { s.cpu.main with
        d := s.cpu.main.h, e := s.cpu.main.l, h := s.cpu.main.d, l := s.cpu.main.e } }
      stepCycles := 4 } ∧
    (s.cfg.xyExact = true → exec .exAFAF s = .next { s with
      cpu := { s.cpu with
        main := { s.cpu.main with a := s.cpu.shadow.a, f := s.cpu.shadow.f }
        shadow := { s.cpu.shadow with a := s.cpu.main.a, f := s.cpu.main.f } }
      stepCycles := 4 }) ∧
    (∃ t : State, exec .exAFAF s = .next t ∧ t.stepCycles = 4 ∧ t.fWritten s.cpu.shadow.f ∧
      t.cpu = { s.cpu with
        main := { s.cpu.main with a := s.cpu.shadow.a, f := t.f }
        shadow := { s.cpu.shadow with a := s.cpu.main.a, f := s.cpu.main.f } } ∧ s.KeepsAll s.io t) ∧
    exec .exx s = .next { s with
      cpu := { s.cpu with
        main := { s.cpu.shadow with a := s.cpu.main.a, f := s.cpu.main.f }
        shadow := { s.cpu.main with a := s.cpu.shadow.a, f := s.cpu.shadow.f } }
      stepCycles := 4 }

/-- EX (SP): the word at SP and the register change places, the low byte read first and written last; WZ takes the word; SP and
every flag stay (41_load16_exchange.md R217, R218). -/
def Obligations.StackExchanges : Prop :=
  ∀ (i : Instr) (reg : WordReg) (cycles : Nat) (s : State), exchangeOf i = some (reg, cycles) →
    let low := s.memRead s.cpu.sp
    let high := low.2.memRead (s.cpu.sp + 1)
    ∃ t : State, exec i s = .next t ∧ t.stepCycles = cycles ∧
      t.wordReg reg = high.1 ++ low.1 ∧ (∀ other, other ≠ reg → t.wordReg other = s.wordReg other) ∧
      t.a = s.a ∧ t.f = s.f ∧
      t.cpu = { s.cpu with main := t.cpu.main, ix := t.cpu.ix, iy := t.cpu.iy, wz := high.1 ++ low.1 } ∧
      s.Stores high.2.io [(s.cpu.sp + 1, hi (s.wordReg reg)), (s.cpu.sp, lo (s.wordReg reg))] t

/-! ### Block instructions -/

/-- LDI, LDD, LDIR, LDDR: one byte copied from (HL) to (DE), the pointers stepped, BC counted down, the flags of R250; a repeating
form with BC not 0 goes back to its first byte in 21 cycles with WZ one past it (42_block.md R250 to R253, R258). -/
def Obligations.BlockCopies : Prop :=
  ∀ (i : Instr) (k : BlockKind) (s : State), blockCopy i = some k →
    let byte := (s.memRead s.hl).1
    ∃ t : State, exec i s = .next t ∧
      t.hl = k.next s.hl ∧ t.de = k.next s.de ∧ t.bc = BitVec.ofInt 16 (s.bc.toNat - 1) ∧ t.a = s.a ∧
      t.flagsAre ⟨flagS s.f, flagZ s.f, false, t.bc != 0, false, flagC s.f, (s.a + byte).getLsbD 1, (s.a + byte).getLsbD 3⟩ ∧
      t.cpu = { s.cpu with main := t.cpu.main, pc := t.cpu.pc, wz := t.cpu.wz } ∧
      (if k.repeats = true ∧ t.bc ≠ 0 then
        t.cpu.pc = s.cpu.pc - 2 ∧ t.cpu.wz = s.cpu.pc - 2 + 1 ∧ t.stepCycles = 21
      else t.cpu.pc = s.cpu.pc ∧ t.cpu.wz = s.cpu.wz ∧ t.stepCycles = 16) ∧
      s.Stores (s.memRead s.hl).2.io [(s.de, byte)] t

/-- CPI, CPD, CPIR, CPDR: A compared with (HL), the pointer and WZ stepped, BC counted down, the flags of R254, A and C kept; a
repeating form with BC not 0 and no match goes back to its first byte (42_block.md R254 to R258). -/
def Obligations.BlockSearches : Prop :=
  ∀ (i : Instr) (k : BlockKind) (s : State), blockSearch i = some k →
    let byte := (s.memRead s.hl).1
    let half := decide (s.a.toNat % 16 < byte.toNat % 16)
    let n := s.a.toNat - byte.toNat - (half.toNat : Int)
    ∃ t : State, exec i s = .next t ∧
      t.hl = k.next s.hl ∧ t.bc = BitVec.ofInt 16 (s.bc.toNat - 1) ∧ t.de = s.de ∧ t.a = s.a ∧
      t.flagsAre ⟨decide ((s.a - byte).toInt < 0), s.a == byte, half, t.bc != 0, true, flagC s.f,
        (BitVec.ofInt 8 n).getLsbD 1, (BitVec.ofInt 8 n).getLsbD 3⟩ ∧
      t.cpu = { s.cpu with main := t.cpu.main, pc := t.cpu.pc, wz := t.cpu.wz } ∧
      (if k.repeats = true ∧ t.bc ≠ 0 ∧ s.a ≠ byte then
        t.cpu.pc = s.cpu.pc - 2 ∧ t.cpu.wz = s.cpu.pc - 2 + 1 ∧ t.stepCycles = 21
      else t.cpu.pc = s.cpu.pc ∧ t.cpu.wz = k.next s.cpu.wz ∧ t.stepCycles = 16) ∧
      s.KeepsAll (s.memRead s.hl).2.io t

/-! ### 8-bit arithmetic and logic -/

/-- ADD and ADC, in all their forms: the sum modulo 256, and the flags as carries and as the signed overflow of it (43_alu8.md
R300 to R303). -/
def Obligations.AddAndAdc : Prop :=
  ∀ (i : Instr) (op : Alu) (src : Src) (cycles : Nat) (s : State), aluOf i = some (op, src, cycles) → op = .add ∨ op = .adc →
    let v := (s.readSrc src).1
    let c := decide (op = .adc) && flagC s.f
    ∃ t : State, exec i s = .next t ∧ t.stepCycles = cycles ∧
      t.a.toNat = (s.a.toNat + v.toNat + c.toNat) % 256 ∧
      t.flagsAre ⟨decide (t.a.toInt < 0), t.a == 0, decide (16 ≤ s.a.toNat % 16 + v.toNat % 16 + c.toNat),
        decide (s.a.toInt + v.toInt + c.toNat < -128 ∨ 127 < s.a.toInt + v.toInt + c.toNat), false,
        decide (256 ≤ s.a.toNat + v.toNat + c.toNat), t.a.getLsbD 5, t.a.getLsbD 3⟩ ∧
      t.cpu = { s.cpu with main := { s.cpu.main with a := t.a, f := t.f }, wz := s.wzAfterRead src } ∧
      s.KeepsAll (s.readSrc src).2 t

/-- SUB and SBC, in all their forms: the difference modulo 256, and the flags as borrows and as the signed overflow of it
(43_alu8.md R300, R301, R304, R305). -/
def Obligations.SubAndSbc : Prop :=
  ∀ (i : Instr) (op : Alu) (src : Src) (cycles : Nat) (s : State), aluOf i = some (op, src, cycles) → op = .sub ∨ op = .sbc →
    let v := (s.readSrc src).1
    let c := decide (op = .sbc) && flagC s.f
    ∃ t : State, exec i s = .next t ∧ t.stepCycles = cycles ∧
      (t.a.toNat : Int) = (s.a.toNat - v.toNat - c.toNat : Int) % 256 ∧
      t.flagsAre ⟨decide (t.a.toInt < 0), t.a == 0, decide (s.a.toNat % 16 < v.toNat % 16 + c.toNat),
        decide (s.a.toInt - v.toInt - c.toNat < -128 ∨ 127 < s.a.toInt - v.toInt - c.toNat), true,
        decide (s.a.toNat < v.toNat + c.toNat), t.a.getLsbD 5, t.a.getLsbD 3⟩ ∧
      t.cpu = { s.cpu with main := { s.cpu.main with a := t.a, f := t.f }, wz := s.wzAfterRead src } ∧
      s.KeepsAll (s.readSrc src).2 t

/-- CP, in all its forms: the flags of the difference, Y and X from the operand, A kept (43_alu8.md R300, R301, R309). -/
def Obligations.Compares : Prop :=
  ∀ (i : Instr) (src : Src) (cycles : Nat) (s : State), aluOf i = some (.cp, src, cycles) →
    let v := (s.readSrc src).1
    ∃ t : State, exec i s = .next t ∧ t.stepCycles = cycles ∧
      t.flagsAre ⟨decide (128 ≤ (s.a.toNat - v.toNat : Int) % 256), decide (s.a = v), decide (s.a.toNat % 16 < v.toNat % 16),
        decide (s.a.toInt - v.toInt < -128 ∨ 127 < s.a.toInt - v.toInt), true, decide (s.a.toNat < v.toNat),
        v.getLsbD 5, v.getLsbD 3⟩ ∧
      t.cpu = { s.cpu with main := { s.cpu.main with f := t.f }, wz := s.wzAfterRead src } ∧
      s.KeepsAll (s.readSrc src).2 t

/-- AND, XOR and OR, in all their forms: the result bit by bit; sign, zero and the parity of its 1 bits; H set by AND alone; N and C
cleared (43_alu8.md R301, R306 to R308). -/
def Obligations.Logic : Prop :=
  ∀ (i : Instr) (op : Alu) (src : Src) (cycles : Nat) (s : State), aluOf i = some (op, src, cycles) →
    op = .and ∨ op = .xor ∨ op = .or →
    let v := (s.readSrc src).1
    ∃ t : State, exec i s = .next t ∧ t.stepCycles = cycles ∧
      (∀ k < 8, t.a.getLsbD k = match op with
        | .and => s.a.getLsbD k && v.getLsbD k
        | .xor => s.a.getLsbD k != v.getLsbD k
        | _ => s.a.getLsbD k || v.getLsbD k) ∧
      t.flagsAre ⟨decide (t.a.toInt < 0), t.a == 0, decide (op = .and), evenOnes t.a, false, false,
        t.a.getLsbD 5, t.a.getLsbD 3⟩ ∧
      t.cpu = { s.cpu with main := { s.cpu.main with a := t.a, f := t.f }, wz := s.wzAfterRead src } ∧
      s.KeepsAll (s.readSrc src).2 t

/-- INC and DEC of a byte, in all their forms: the byte plus or minus 1 modulo 256, H the carry or borrow of the low digit, P/V where
the sign overflows, C kept (43_alu8.md R310 to R313). -/
def Obligations.IncAndDec : Prop :=
  ∀ (i : Instr) (op : Rmw) (place : RmwPlace) (cycles : Nat) (s : State), rmwOf i = some (op, place, cycles) →
    op = .inc ∨ op = .dec →
    let v := (s.readSrc place.src).1
    let w := BitVec.ofInt 8 (v.toNat + (if op = .inc then 1 else -1))
    ∃ t : State, exec i s = .next t ∧ t.stepCycles = cycles ∧ s.rmwLeaves place w t ∧
      t.flagsAre ⟨decide (w.toInt < 0), w == 0,
        if op = .inc then decide (v.toNat % 16 = 15) else decide (v.toNat % 16 = 0),
        if op = .inc then decide (v.toInt = 127) else decide (v.toInt = -128),
        decide (op = .dec), flagC s.f, w.getLsbD 5, w.getLsbD 3⟩

/-- DAA as R320 gives it, defined for every A, H, N and C, with R320's parenthesis: H equals bit 4 of the old A xor the new
(43_alu8.md R320). -/
def Obligations.DecimalAdjust : Prop :=
  encode .daa = [0x27] ∧
  ∀ s : State,
    let low := s.a.toNat % 16
    let high := flagC s.f || decide (0x99 < s.a.toNat)
    let t6 := if flagH s.f = true ∨ 9 < low then 0x06 else 0
    let adjust : Int := t6 + (if high = true then 0x60 else 0)
    ∃ t : State, exec .daa s = .next t ∧ t.stepCycles = 4 ∧
      t.a = BitVec.ofInt 8 (if flagN s.f = true then s.a.toNat - adjust else s.a.toNat + adjust) ∧
      t.flagsAre ⟨decide (t.a.toInt < 0), t.a == 0,
        if flagN s.f = true then flagH s.f && decide (low < 6) else decide (9 < low), evenOnes t.a, flagN s.f, high,
        t.a.getLsbD 5, t.a.getLsbD 3⟩ ∧
      flagH t.f = (s.a ^^^ t.a).getLsbD 4 ∧
      t.cpu = { s.cpu with main := { s.cpu.main with a := t.a, f := t.f } } ∧ s.KeepsAll s.io t

/-- What DAA is for: after the addition of two packed decimal numbers of two digits it leaves their decimal sum in A and its
hundred in C (43_alu8.md R302, R320). -/
def Obligations.DecimalAddition : Prop :=
  ∀ (s : State) (m n : Nat), m < 100 → n < 100 → s.a = BitVec.ofNat 8 (m / 10 * 16 + m % 10) →
    ∃ t u : State, exec (.addAN (BitVec.ofNat 8 (n / 10 * 16 + n % 10))) s = .next t ∧ exec .daa t = .next u ∧
      u.a = BitVec.ofNat 8 ((m + n) % 100 / 10 * 16 + (m + n) % 10) ∧ flagC u.f = decide (100 ≤ m + n)

/-- CPL, SCF, CCF and NEG: A and the flags they write, the others kept (43_alu8.md R321 to R324). -/
def Obligations.AccumulatorAndFlags : Prop :=
  encode .cpl = [0x2F] ∧ encode .scf = [0x37] ∧ encode .ccf = [0x3F] ∧
  (∀ y : BitVec 3, encode (.neg y) = [0xED, 0b01#2 ++ y ++ 0b100#3]) ∧
  ∀ (s : State) (y : BitVec 3),
    (∃ t : State, exec .cpl s = .next t ∧ t.stepCycles = 4 ∧ t.a.toNat = 255 - s.a.toNat ∧
      t.flagsAre ⟨flagS s.f, flagZ s.f, true, flagPV s.f, true, flagC s.f, t.a.getLsbD 5, t.a.getLsbD 3⟩ ∧
      t.cpu = { s.cpu with main := { s.cpu.main with a := t.a, f := t.f } } ∧ s.KeepsAll s.io t) ∧
    (∃ t : State, exec .scf s = .next t ∧ t.stepCycles = 4 ∧
      t.flagsAre ⟨flagS s.f, flagZ s.f, false, flagPV s.f, false, true, s.a.getLsbD 5, s.a.getLsbD 3⟩ ∧
      t.cpu = { s.cpu with main := { s.cpu.main with f := t.f } } ∧ s.KeepsAll s.io t) ∧
    (∃ t : State, exec .ccf s = .next t ∧ t.stepCycles = 4 ∧
      t.flagsAre ⟨flagS s.f, flagZ s.f, flagC s.f, flagPV s.f, false, !flagC s.f, s.a.getLsbD 5, s.a.getLsbD 3⟩ ∧
      t.cpu = { s.cpu with main := { s.cpu.main with f := t.f } } ∧ s.KeepsAll s.io t) ∧
    (∃ t : State, exec (.neg y) s = .next t ∧ t.stepCycles = 8 ∧ t.a.toNat = (256 - s.a.toNat) % 256 ∧
      t.flagsAre ⟨decide (t.a.toInt < 0), t.a == 0, decide (s.a.toNat % 16 ≠ 0), decide (s.a = 0x80), true,
        decide (s.a ≠ 0), t.a.getLsbD 5, t.a.getLsbD 3⟩ ∧
      t.cpu = { s.cpu with main := { s.cpu.main with a := t.a, f := t.f } } ∧ s.KeepsAll s.io t)

/-! ### 16-bit arithmetic -/

/-- ADD, ADC and SBC of words: the result modulo 2^16, WZ one past the old destination, C and H as carries or borrows out of bits 15
and 11; ADD keeps S, Z and P/V, the others set them from the 16-bit result (44_alu16.md R350 to R353). -/
def Obligations.WordArithmetic : Prop :=
  ∀ (i : Instr) (op : Alu16) (dst src : WordReg) (cycles : Nat) (s : State), alu16Of i = some (op, dst, src, cycles) →
    let a := s.wordReg dst
    let v := s.wordReg src
    let c : Bool := op != .add && flagC s.f
    let sub := decide (op = .sbc)
    ∃ t : State, exec i s = .next t ∧ t.stepCycles = cycles ∧
      t.wordReg dst = BitVec.ofInt 16 (if sub then a.toNat - v.toNat - c.toNat else a.toNat + v.toNat + c.toNat) ∧
      (∀ other, other ≠ dst → t.wordReg other = s.wordReg other) ∧ t.a = s.a ∧
      t.flagsAre ⟨if op = .add then flagS s.f else decide ((t.wordReg dst).toInt < 0),
        if op = .add then flagZ s.f else t.wordReg dst == 0,
        if sub then decide (a.toNat % 4096 < v.toNat % 4096 + c.toNat)
        else decide (4096 ≤ a.toNat % 4096 + v.toNat % 4096 + c.toNat),
        if op = .add then flagPV s.f
        else if sub then decide (a.toInt - v.toInt - c.toNat < -32768 ∨ 32767 < a.toInt - v.toInt - c.toNat)
        else decide (a.toInt + v.toInt + c.toNat < -32768 ∨ 32767 < a.toInt + v.toInt + c.toNat),
        sub,
        if sub then decide (a.toNat < v.toNat + c.toNat) else decide (65536 ≤ a.toNat + v.toNat + c.toNat),
        (t.wordReg dst).getLsbD 13, (t.wordReg dst).getLsbD 11⟩ ∧
      t.cpu = { s.cpu with main := t.cpu.main, ix := t.cpu.ix, iy := t.cpu.iy, wz := a + 1 } ∧
      s.KeepsAll s.io t

/-! ### Rotates, shifts and bits -/

/-- RLCA, RRCA, RLA, RRA: A bit by bit, C the bit moved out, H and N cleared, S, Z and P/V kept (45_rotate_bit.md R400 to R403). -/
def Obligations.AccumulatorRotates : Prop :=
  encode .rlca = [0x07] ∧ encode .rrca = [0x0F] ∧ encode .rla = [0x17] ∧ encode .rra = [0x1F] ∧
  ∀ (i : Instr) (kind : Rot) (s : State), rotAOf i = some kind →
    ∃ t : State, exec i s = .next t ∧ t.stepCycles = 4 ∧
      (∀ k < 8, t.a.getLsbD k = kind.bit s.a (flagC s.f) k) ∧
      t.flagsAre ⟨flagS s.f, flagZ s.f, false, flagPV s.f, false, kind.out s.a, t.a.getLsbD 5, t.a.getLsbD 3⟩ ∧
      t.cpu = { s.cpu with main := { s.cpu.main with a := t.a, f := t.f } } ∧ s.KeepsAll s.io t

/-- The CB rotates and shifts, in all their forms: the result bit by bit, C the bit moved out, the sign, zero and parity of the
result, H and N cleared (45_rotate_bit.md R404 to R413, R427). -/
def Obligations.RotatesAndShifts : Prop :=
  ∀ (i : Instr) (kind : Rot) (place : RmwPlace) (cycles : Nat) (s : State), rmwOf i = some (.rot kind, place, cycles) →
    let v := (s.readSrc place.src).1
    ∃ (t : State) (w : Byte), exec i s = .next t ∧ t.stepCycles = cycles ∧
      (∀ k < 8, w.getLsbD k = kind.bit v (flagC s.f) k) ∧ s.rmwLeaves place w t ∧
      t.flagsAre ⟨decide (w.toInt < 0), w == 0, false, evenOnes w, false, kind.out v, w.getLsbD 5, w.getLsbD 3⟩

/-- RES and SET, in all their forms: the one bit changed, no flag (45_rotate_bit.md R404, R425 to R427). -/
def Obligations.ResAndSet : Prop :=
  ∀ (i : Instr) (op : Rmw) (b : BitVec 3) (place : RmwPlace) (cycles : Nat) (s : State), rmwOf i = some (op, place, cycles) →
    op = .res b ∨ op = .set b →
    let v := (s.readSrc place.src).1
    ∃ (t : State) (w : Byte), exec i s = .next t ∧ t.stepCycles = cycles ∧
      (∀ k < 8, w.getLsbD k = if k = b.toNat then decide (op = .set b) else v.getLsbD k) ∧
      s.rmwLeaves place w t ∧ t.f = s.f

/-- RLD and RRD: the three digits of A's low half and of (HL) rotated, A's high digit kept; the flags of the new A, C kept; WZ takes
HL + 1 (45_rotate_bit.md R415, R416). -/
def Obligations.DigitRotates : Prop :=
  encode .rld = [0xED, 0x6F] ∧ encode .rrd = [0xED, 0x67] ∧
  ∀ (s : State) (left : Bool),
    let v := (s.memRead s.hl).1
    let stored := if left then v.toNat % 16 * 16 + s.a.toNat % 16 else s.a.toNat % 16 * 16 + v.toNat / 16
    ∃ t : State, exec (if left then .rld else .rrd) s = .next t ∧ t.stepCycles = 18 ∧
      t.a.toNat = s.a.toNat / 16 * 16 + (if left then v.toNat / 16 else v.toNat % 16) ∧
      t.flagsAre ⟨decide (t.a.toInt < 0), t.a == 0, false, evenOnes t.a, false, flagC s.f, t.a.getLsbD 5, t.a.getLsbD 3⟩ ∧
      t.cpu = { s.cpu with main := { s.cpu.main with a := t.a, f := t.f }, wz := s.hl + 1 } ∧
      s.Stores (s.memRead s.hl).2.io [(s.hl, BitVec.ofNat 8 stored)] t

/-- BIT, in all its forms: Z and P/V tell that the bit is 0, S that bit 7 was tested and is 1; Y and X come from the register, from
WZ for (HL), from the address for (XY+d); C kept, no register and no memory written (45_rotate_bit.md R420 to R422). -/
def Obligations.BitTests : Prop :=
  ∀ (i : Instr) (b : BitVec 3) (src : Src) (cycles : Nat) (s : State), bitOf i = some (b, src, cycles) →
    let v := (s.readSrc src).1
    let one := v.getLsbD b.toNat
    let yx : Byte := match src with
      | .mem .hl => hi s.cpu.wz
      | .mem a => hi (s.addrOf a)
      | _ => v
    ∃ t : State, exec i s = .next t ∧ t.stepCycles = cycles ∧
      t.flagsAre ⟨one && b == 7, !one, true, !one, false, flagC s.f, yx.getLsbD 5, yx.getLsbD 3⟩ ∧
      t.cpu = { s.cpu with main := { s.cpu.main with f := t.f }, wz := s.wzAfterRead src } ∧
      s.KeepsAll (s.readSrc src).2 t

/-! ### Control transfer -/

/-- The jumps: PC takes the target where the condition holds and stays at the next instruction where it does not; WZ as the rule
says; no flag, no other register (46_control.md R451 to R454, R456, R457). DJNZ counts B down and jumps while it is not 0 (R455).
The conditions are bits of F (R450). -/
def Obligations.Jumps : Prop :=
  (∀ f : Byte,
    (condHolds .nz f = true ↔ f &&& 0x40 = 0) ∧ (condHolds .z f = true ↔ f &&& 0x40 ≠ 0) ∧
    (condHolds .nc f = true ↔ f &&& 0x01 = 0) ∧ (condHolds .c f = true ↔ f &&& 0x01 ≠ 0) ∧
    (condHolds .po f = true ↔ f &&& 0x04 = 0) ∧ (condHolds .pe f = true ↔ f &&& 0x04 ≠ 0) ∧
    (condHolds .p f = true ↔ f &&& 0x80 = 0) ∧ (condHolds .m f = true ↔ f &&& 0x80 ≠ 0)) ∧
  (∀ (i : Instr) (taken : Bool) (target wz : Word) (cycles : Nat) (s : State), s.jumpOf i = some (taken, target, wz, cycles) →
    ∃ t : State, exec i s = .next t ∧ t.stepCycles = cycles ∧
      t.cpu = { s.cpu with pc := if taken then target else s.cpu.pc, wz := wz } ∧ s.KeepsAll s.io t) ∧
  (∀ (e : Byte) (s : State),
    let b := BitVec.ofInt 8 (s.cpu.main.b.toNat - 1)
    let target := displaced s.cpu.pc e
    ∃ t : State, exec (.djnz e) s = .next t ∧ t.stepCycles = (if s.cpu.main.b = 1 then 8 else 13) ∧
      t.cpu = { s.cpu with
        main := { s.cpu.main with b := b }
        pc := if s.cpu.main.b = 1 then s.cpu.pc else target
        wz := if s.cpu.main.b = 1 then s.cpu.wz else target } ∧ s.KeepsAll s.io t)

/-- The calls and RST: where taken, the next instruction's address is pushed, high byte at the higher address, and PC takes the
target; WZ takes the target in both cases (46_control.md R460, R461, R475). -/
def Obligations.Calls : Prop :=
  ∀ (i : Instr) (taken : Bool) (target : Word) (cycles : Nat) (s : State), s.callOf i = some (taken, target, cycles) →
    ∃ t : State, exec i s = .next t ∧ t.stepCycles = cycles ∧
      (if taken then
        t.cpu = { s.cpu with sp := s.cpu.sp - 2, pc := target, wz := target } ∧
        s.Stores s.io [(s.cpu.sp - 1, hi s.cpu.pc), (s.cpu.sp - 2, lo s.cpu.pc)] t
      else t.cpu = { s.cpu with wz := target } ∧ s.KeepsAll s.io t)

/-- The returns: where taken, PC and WZ take the word at SP, low byte first, and SP goes past it; RETN and RETI copy IFF2 to IFF1
(46_control.md R462, R463, R470). -/
def Obligations.Returns : Prop :=
  ∀ (i : Instr) (taken iff1 : Bool) (cycles : Nat) (s : State), s.returnOf i = some (taken, iff1, cycles) →
    let low := s.memRead s.cpu.sp
    let high := low.2.memRead (s.cpu.sp + 1)
    ∃ t : State, exec i s = .next t ∧ t.stepCycles = cycles ∧
      (if taken then
        t.cpu = { s.cpu with sp := s.cpu.sp + 2, pc := high.1 ++ low.1, wz := high.1 ++ low.1, iff1 := iff1 } ∧
        s.KeepsAll high.2.io t
      else t.cpu = s.cpu ∧ s.KeepsAll s.io t)

/-! ### Input and output -/

/-- IN A,(n), IN r,(C) and IN (C): the byte of the port goes to the register, if there is one; IN r,(C) and IN (C) set the flags of
R502 and keep C; IN A,(n) sets none (20_memory.md R73; 47_io.md R500, R502, R503). -/
def Obligations.Inputs : Prop :=
  ∀ (i : Instr) (dst : Option Reg8) (port wz : Word) (flags : Bool) (cycles : Nat) (s : State),
    s.inOf i = some (dst, port, wz, flags, cycles) →
    let v := (s.ioRead port).1
    ∃ t : State, exec i s = .next t ∧ t.stepCycles = cycles ∧
      (∀ r, t.reg8 r = if dst = some r then v else s.reg8 r) ∧
      (if flags then
        t.flagsAre ⟨decide (v.toInt < 0), v == 0, false, evenOnes v, false, flagC s.f, v.getLsbD 5, v.getLsbD 3⟩
      else t.f = s.f) ∧
      t.cpu = { s.cpu with main := t.cpu.main, wz := wz } ∧ s.KeepsAll (s.ioRead port).2.io t

/-- OUT (n),A, OUT (C),r and OUT (C),0: the byte goes to the port; no register but WZ changes (20_memory.md R73; 47_io.md R501, R504,
R505). -/
def Obligations.Outputs : Prop :=
  ∀ (i : Instr) (port : Word) (v : Byte) (wz : Word) (cycles : Nat) (s : State), s.outOf i = some (port, v, wz, cycles) →
    ∃ t : State, exec i s = .next t ∧ t.stepCycles = cycles ∧ t.cpu = { s.cpu with wz := wz } ∧ s.Outs s.io port v t

/-- INI, IND, INIR, INDR: the byte of port BC, B not yet counted down, goes to (HL); B counted down, HL and WZ stepped, the flags of
R510 with k from the byte and the stepped C; a repeating form with B not 0 goes back to its first byte (47_io.md R506, R507, R510
to R512). -/
def Obligations.BlockInputs : Prop :=
  ∀ (i : Instr) (k : BlockKind) (s : State), blockIn i = some k →
    let v := (s.ioRead s.bc).1
    let b := BitVec.ofInt 8 (s.cpu.main.b.toNat - 1)
    let sum := v.toNat + ((s.cpu.main.c.toNat : Int) + (if k.up then 1 else -1)) % 256
    ∃ t : State, exec i s = .next t ∧
      t.hl = k.next s.hl ∧
      t.cpu = { s.cpu with
        main := { s.cpu.main with b := b, h := t.cpu.main.h, l := t.cpu.main.l, f := t.f }
        pc := t.cpu.pc
        wz := k.next s.bc } ∧
      t.flagsAre ⟨decide (b.toInt < 0), b == 0, decide (255 < sum), evenOnes (BitVec.ofInt 8 (sum % 8) ^^^ b),
        v.getLsbD 7, decide (255 < sum), b.getLsbD 5, b.getLsbD 3⟩ ∧
      (if k.repeats = true ∧ b ≠ 0 then t.cpu.pc = s.cpu.pc - 2 ∧ t.stepCycles = 21
      else t.cpu.pc = s.cpu.pc ∧ t.stepCycles = 16) ∧
      s.Stores (s.ioRead s.bc).2.io [(s.hl, v)] t

/-- OUTI, OUTD, OTIR, OTDR: the byte of (HL) goes to port BC with B already counted down; HL stepped, WZ one step from that BC, the
flags of R510 with k from the byte and the new L; a repeating form with B not 0 goes back to its first byte (47_io.md R508 to R510,
R513, R514). -/
def Obligations.BlockOutputs : Prop :=
  ∀ (i : Instr) (k : BlockKind) (s : State), blockOut i = some k →
    let v := (s.memRead s.hl).1
    let b := BitVec.ofInt 8 (s.cpu.main.b.toNat - 1)
    ∃ t : State, exec i s = .next t ∧
      t.hl = k.next s.hl ∧
      t.cpu = { s.cpu with
        main := { s.cpu.main with b := b, h := t.cpu.main.h, l := t.cpu.main.l, f := t.f }
        pc := t.cpu.pc
        wz := k.next (b ++ s.cpu.main.c) } ∧
      (let sum := v.toNat + t.cpu.main.l.toNat
       t.flagsAre ⟨decide (b.toInt < 0), b == 0, decide (255 < sum), evenOnes (BitVec.ofNat 8 (sum % 8) ^^^ b),
        v.getLsbD 7, decide (255 < sum), b.getLsbD 5, b.getLsbD 3⟩) ∧
      (if k.repeats = true ∧ b ≠ 0 then t.cpu.pc = s.cpu.pc - 2 ∧ t.stepCycles = 21
      else t.cpu.pc = s.cpu.pc ∧ t.stepCycles = 16) ∧
      s.Outs (s.memRead s.hl).2.io (b ++ s.cpu.main.c) v t

/-! ### CPU control -/

/-- NOP, NONI, HALT, DI, EI, IM and an ignored prefix: what they change and their cycles (48_cpu_control.md R550, R552 to R555,
R570, R571; 10_state.md R34). An ignored prefix is the encoding of its byte alone. -/
def Obligations.CpuControl : Prop :=
  encode .nop = [0x00] ∧ encode .halt = [0x76] ∧ encode .di = [0xF3] ∧ encode .ei = [0xFB] ∧
  (∀ y : BitVec 3, encode (.im y) = [0xED, 0b01#2 ++ y ++ 0b110#3]) ∧
  (∀ op : Byte, encode (.noni op) = [0xED, op]) ∧
  encode (.prefixIgnored .ix) = [0xDD] ∧ encode (.prefixIgnored .iy) = [0xFD] ∧
  ∀ (s : State) (op : Byte) (y : BitVec 3) (p : IndexReg),
    exec .nop s = .next { s with stepCycles := 4 } ∧
    exec (.noni op) s = .next { s with stepCycles := 8 } ∧
    exec .halt s = .next { s with cpu := { s.cpu with halted := true }, stepCycles := 4 } ∧
    exec .di s = .next { s with cpu := { s.cpu with iff1 := false, iff2 := false }, stepCycles := 4 } ∧
    exec .ei s = .next { s with
      cpu := { s.cpu with iff1 := true, iff2 := true, eiInhibit := true, prefixInhibit := false }
      stepCycles := 4 } ∧
    exec (.im y) s = .next { s with
      cpu := { s.cpu with im := if y = 2 ∨ y = 6 then .im1 else if y = 3 ∨ y = 7 then .im2 else .im0 }
      stepCycles := 8 } ∧
    exec (.prefixIgnored p) s = .next { s with
      cpu := { s.cpu with eiInhibit := false, prefixInhibit := true }, stepCycles := 4 }

/-- LD A,I and LD A,R set the flags from the byte, P/V from IFF2, and keep C; LD I,A and LD R,A write all eight bits and no flag
(48_cpu_control.md R560 to R563). -/
def Obligations.InterruptAndRefreshRegisters : Prop :=
  encode .ldAI = [0xED, 0x57] ∧ encode .ldAR = [0xED, 0x5F] ∧ encode .ldIA = [0xED, 0x47] ∧ encode .ldRA = [0xED, 0x4F] ∧
  ∀ s : State,
    (∀ refresh : Bool,
      let v := if refresh then s.cpu.r else s.cpu.i
      ∃ t : State, exec (if refresh then .ldAR else .ldAI) s = .next t ∧ t.stepCycles = 9 ∧ t.a = v ∧
        t.flagsAre ⟨decide (v.toInt < 0), v == 0, false, s.cpu.iff2, false, flagC s.f, v.getLsbD 5, v.getLsbD 3⟩ ∧
        t.cpu = { s.cpu with main := { s.cpu.main with a := v, f := t.f } } ∧ s.KeepsAll s.io t) ∧
    exec .ldIA s = .next { s with cpu := { s.cpu with i := s.a }, stepCycles := 9 } ∧
    exec .ldRA s = .next { s with cpu := { s.cpu with r := s.a }, stepCycles := 9 }
end

