-- ==== Sys2Proof/Laws/Config.lean ====
section
/-! SUPPORT. What the check of a region table gives: bounds, order and no gap (20_memory.md R63), and what a write to a bank's select
register does to the selections (R68). -/

namespace Sys2Proof

/-- Every region of a covering table has a length and lies in the covered stretch. -/
theorem regionsCover_bounds {table : List Region} {start stop : Nat} (h : regionsCover table start stop = true) :
    start ≤ stop ∧ ∀ (k : Nat) (g : Region), table[k]? = some g → start ≤ g.start ∧ 0 < g.length ∧ g.start + g.length ≤ stop := by
  induction table generalizing start with
  | nil => simp [regionsCover] at h; subst h; simp
  | cons g rest ih =>
    simp [regionsCover] at h
    obtain ⟨⟨h1, h2⟩, h3⟩ := h
    have tail := ih h3
    refine ⟨by omega, fun k g' hk => ?_⟩
    cases k with
    | zero => simp at hk; subst hk; omega
    | succ k => simp at hk; have := tail.2 k g' hk; omega

/-- The regions of a covering table are in order and apart. -/
theorem regionsCover_order {table : List Region} {start stop : Nat} (h : regionsCover table start stop = true) {j k : Nat}
    {g g' : Region} (hj : table[j]? = some g) (hk : table[k]? = some g') (hjk : j < k) : g.start + g.length ≤ g'.start := by
  induction table generalizing start j k with
  | nil => simp at hj
  | cons a rest ih =>
    simp [regionsCover] at h
    obtain ⟨⟨h1, h2⟩, h3⟩ := h
    cases k with
    | zero => omega
    | succ k =>
      simp at hk
      cases j with
      | zero => simp at hj; subst hj; have := (regionsCover_bounds h3).2 k g' hk; omega
      | succ j => simp at hj; exact ih h3 hj hk (by omega)

/-- A covering table leaves no address out. -/
theorem regionsCover_covers {table : List Region} {start stop a : Nat} (h : regionsCover table start stop = true)
    (h1 : start ≤ a) (h2 : a < stop) : ∃ g ∈ table, g.start ≤ a ∧ a < g.start + g.length := by
  induction table generalizing start with
  | nil => simp [regionsCover] at h; omega
  | cons g rest ih =>
    simp [regionsCover] at h
    obtain ⟨⟨e1, -⟩, h3⟩ := h
    by_cases inside : a < g.start + g.length
    · exact ⟨g, by simp, by omega, inside⟩
    · obtain ⟨g', hg, hi⟩ := ih h3 (by omega)
      exact ⟨g', by simp [hg], hi⟩

namespace Machine

/-- A write to a select register keeps the number of selections. -/
@[simp] theorem selectBanks_length (reg : DevReg) (v : Byte) (k : Nat) (banks : List Bank) (js : List Nat) :
    (selectBanks reg v k banks js).length = js.length := by
  induction banks generalizing k js with
  | nil => cases js <;> rfl
  | cons bank banks ih =>
    cases js with
    | nil => rfl
    | cons j js => simp [selectBanks, ih]

/-- A write to a select register sets the selection of each bank whose register it is, and no other. -/
theorem selectBanks_getElem? (reg : DevReg) (v : Byte) (first : Nat) {banks : List Bank} {js : List Nat} {k j : Nat} {bank : Bank}
    (h1 : banks[k]? = some bank) (h2 : js[k]? = some j) :
    (selectBanks reg v first banks js)[k]? =
      some (if bank.select = reg then Config.bankIndex (first + k) v % bank.backings.length else j) := by
  induction banks generalizing first js k with
  | nil => simp at h1
  | cons b banks ih =>
    cases js with
    | nil => simp at h2
    | cons j' js =>
      cases k with
      | zero => simp at h1 h2; subst h1 h2; simp [selectBanks]
      | succ k =>
        simp at h1 h2
        simp only [selectBanks, List.getElem?_cons_succ]
        rw [ih _ h1 h2]
        congr 4
        omega

end Machine

end Sys2Proof
end

