-- ==== Sys2Proof/Laws/Memory.lean ====
section
/-! SUPPORT. The laws of the RAM store: every operation keeps the canonical form, a read after a write, and that canonical stores
that read alike are equal. -/

namespace Sys2Proof.Machine

theorem Memory.above_read {m : Memory} {lim key : Nat} (h : m.above lim = true) (hk : key ≤ lim) :
    m.read key = unlistedByte key := by
  induction m with
  | nil => rfl
  | cons cell rest ih =>
    simp only [Memory.above, Bool.and_eq_true, decide_eq_true_eq] at h
    simp only [Memory.read, if_neg (show cell.1 ≠ key by omega), ih h.2]

theorem Memory.above_mono {m : Memory} {lo hi : Nat} (h : m.above hi = true) (hl : lo ≤ hi) : m.above lo = true := by
  induction m with
  | nil => rfl
  | cons cell rest ih =>
    simp only [Memory.above, Bool.and_eq_true, decide_eq_true_eq] at h ⊢
    exact ⟨by omega, ih h.2⟩

theorem Memory.wf_cons_iff (cell : Host.Cell) (rest : Memory) :
    Memory.wf (cell :: rest) = true ↔ cell.2 ≠ unlistedByte cell.1 ∧ rest.above cell.1 = true ∧ rest.wf = true := by
  simp [Memory.wf, and_assoc]

theorem Memory.cons_above {m : Memory} {key lim : Nat} {v : Byte} (h : m.above lim = true) (hk : lim < key) :
    (Memory.cons key v m).above lim = true := by
  unfold Memory.cons
  split
  · exact h
  · simp [Memory.above, hk, h]

theorem Memory.cons_wf {m : Memory} {key : Nat} {v : Byte} (h : m.wf = true) (ha : m.above key = true) :
    (Memory.cons key v m).wf = true := by
  unfold Memory.cons
  split
  · exact h
  · rename_i hv
    exact (Memory.wf_cons_iff _ _).2 ⟨hv, ha, h⟩

theorem Memory.cons_read {m : Memory} {key : Nat} (v : Byte) (j : Nat) (ha : m.above key = true) :
    (Memory.cons key v m).read j = if j = key then v else m.read j := by
  unfold Memory.cons
  by_cases hv : v = unlistedByte key
  · rw [if_pos hv]
    by_cases hj : j = key
    · subst hj; rw [if_pos rfl, hv, Memory.above_read ha (Nat.le_refl _)]
    · rw [if_neg hj]
  · rw [if_neg hv]
    simp only [Memory.read, eq_comm]

theorem Memory.write_above {m : Memory} {key lim : Nat} {v : Byte} (hw : m.wf = true) (h : m.above lim = true) (hk : lim < key) :
    (m.write key v).above lim = true := by
  induction m with
  | nil => exact Memory.cons_above rfl hk
  | cons cell rest ih =>
    obtain ⟨hv, ha, hr⟩ := (Memory.wf_cons_iff _ _).1 hw
    simp only [Memory.above, Bool.and_eq_true, decide_eq_true_eq] at h
    unfold Memory.write
    split
    · exact Memory.cons_above (by simp [Memory.above, h]) hk
    · split
      · exact Memory.cons_above h.2 hk
      · simp [Memory.above, h.1, ih hr h.2]

/-- Every write keeps the canonical form. -/
theorem Memory.write_wf {m : Memory} (key : Nat) (v : Byte) (hw : m.wf = true) : (m.write key v).wf = true := by
  induction m with
  | nil => exact Memory.cons_wf rfl rfl
  | cons cell rest ih =>
    obtain ⟨hv, ha, hr⟩ := (Memory.wf_cons_iff _ _).1 hw
    unfold Memory.write
    split
    · rename_i hlt
      exact Memory.cons_wf hw (by simp [Memory.above, hlt, Memory.above_mono ha (Nat.le_of_lt hlt)])
    · split
      · rename_i heq
        exact Memory.cons_wf hr (heq ▸ ha)
      · rename_i h1 h2
        exact (Memory.wf_cons_iff _ _).2 ⟨hv, Memory.write_above hr ha (by omega), ih hr⟩

/-- A read after a write: the byte written at its key, the old byte elsewhere. -/
theorem Memory.read_write {m : Memory} (key : Nat) (v : Byte) (j : Nat) (hw : m.wf = true) :
    (m.write key v).read j = if j = key then v else m.read j := by
  induction m with
  | nil => exact Memory.cons_read v j rfl
  | cons cell rest ih =>
    obtain ⟨hv, ha, hr⟩ := (Memory.wf_cons_iff _ _).1 hw
    unfold Memory.write
    split
    · rename_i hlt
      exact Memory.cons_read v j (by simp [Memory.above, hlt, Memory.above_mono ha (Nat.le_of_lt hlt)])
    · split
      · rename_i heq
        rw [Memory.cons_read v j (heq ▸ ha)]
        by_cases hj : j = key
        · simp [hj]
        · simp [hj, Memory.read, show cell.1 ≠ j by omega]
      · rename_i h1 h2
        simp only [Memory.read, ih hr]
        by_cases hj : cell.1 = j
        · simp [hj, show j ≠ key by omega]
        · simp [hj]

/-- Canonical stores that read alike are the same list. -/
theorem Memory.eq_of_read_eq {m n : Memory} (hm : m.wf = true) (hn : n.wf = true) (h : ∀ key, m.read key = n.read key) :
    m = n := by
  induction m generalizing n with
  | nil =>
    cases n with
    | nil => rfl
    | cons c r =>
      have hc := h c.1
      simp [Memory.read] at hc
      exact absurd hc.symm ((Memory.wf_cons_iff _ _).1 hn).1
  | cons c r ih =>
    obtain ⟨hv, ha, hr⟩ := (Memory.wf_cons_iff _ _).1 hm
    cases n with
    | nil =>
      have hc := h c.1
      simp [Memory.read] at hc
      exact absurd hc hv
    | cons c' r' =>
      obtain ⟨hv', ha', hr'⟩ := (Memory.wf_cons_iff _ _).1 hn
      have hkey : c.1 = c'.1 := by
        rcases Nat.lt_trichotomy c.1 c'.1 with hlt | heq | hgt
        · have hc := h c.1
          rw [Memory.above_read (m := c' :: r') (lim := c.1)
            (by simp [Memory.above, hlt, Memory.above_mono ha' (Nat.le_of_lt hlt)]) (Nat.le_refl _)] at hc
          simp [Memory.read] at hc
          exact absurd hc hv
        · exact heq
        · have hc := h c'.1
          rw [Memory.above_read (m := c :: r) (lim := c'.1)
            (by simp [Memory.above, hgt, Memory.above_mono ha (Nat.le_of_lt hgt)]) (Nat.le_refl _)] at hc
          simp [Memory.read] at hc
          exact absurd hc.symm hv'
      have hval : c.2 = c'.2 := by
        have hc := h c.1
        simpa [Memory.read, hkey] using hc
      have hrest : r = r' := ih hr hr' (fun key => by
        have hc := h key
        by_cases hk : c.1 = key
        · subst hk
          rw [Memory.above_read ha (Nat.le_refl _), Memory.above_read (hkey ▸ ha') (Nat.le_refl _)]
        · simpa [Memory.read, hk, ← hkey] using hc)
      rw [hrest, Prod.ext hkey hval]

/-- A key that no RAM backing has stays absent: the keys of a store after a write are the old ones and the one written. -/
theorem Memory.write_keys {m : Memory} {key : Nat} {v : Byte} {p : Nat → Bool} (hp : p key = true)
    (h : m.all (fun cell => p cell.1) = true) : (m.write key v).all (fun cell => p cell.1) = true := by
  induction m with
  | nil => unfold Memory.write Memory.cons; split <;> simp [hp]
  | cons cell rest ih =>
    simp only [List.all_cons, Bool.and_eq_true] at h
    unfold Memory.write Memory.cons
    split
    · split <;> simp [hp, h]
    · split
      · split <;> simp [hp, h.2]
      · simp [h.1, ih h.2]

/-- The reset state's store is canonical. -/
theorem reset_ram_wf : State.reset.mem.ram.wf = true := rfl

end Sys2Proof.Machine
end

