-- ==== Sys2Proof/Laws/State.lean ====
section
/-! SUPPORT. One lemma per field per named update of the state, so that no proof unfolds a record update. The derived register
writes are rewritten to the update they are made of. -/

namespace Sys2Proof.Machine

variable (s : State)

@[simp] theorem State.setMain_main (m : RegSet) : (s.setMain m).cpu.main = m := rfl
@[simp] theorem State.setMain_shadow (m : RegSet) : (s.setMain m).cpu.shadow = s.cpu.shadow := rfl
@[simp] theorem State.setMain_ix (m : RegSet) : (s.setMain m).cpu.ix = s.cpu.ix := rfl
@[simp] theorem State.setMain_iy (m : RegSet) : (s.setMain m).cpu.iy = s.cpu.iy := rfl
@[simp] theorem State.setMain_sp (m : RegSet) : (s.setMain m).cpu.sp = s.cpu.sp := rfl
@[simp] theorem State.setMain_pc (m : RegSet) : (s.setMain m).cpu.pc = s.cpu.pc := rfl
@[simp] theorem State.setMain_wz (m : RegSet) : (s.setMain m).cpu.wz = s.cpu.wz := rfl
@[simp] theorem State.setMain_i (m : RegSet) : (s.setMain m).cpu.i = s.cpu.i := rfl
@[simp] theorem State.setMain_r (m : RegSet) : (s.setMain m).cpu.r = s.cpu.r := rfl
@[simp] theorem State.setMain_iff1 (m : RegSet) : (s.setMain m).cpu.iff1 = s.cpu.iff1 := rfl
@[simp] theorem State.setMain_iff2 (m : RegSet) : (s.setMain m).cpu.iff2 = s.cpu.iff2 := rfl
@[simp] theorem State.setMain_im (m : RegSet) : (s.setMain m).cpu.im = s.cpu.im := rfl
@[simp] theorem State.setMain_halted (m : RegSet) : (s.setMain m).cpu.halted = s.cpu.halted := rfl
@[simp] theorem State.setMain_eiInhibit (m : RegSet) : (s.setMain m).cpu.eiInhibit = s.cpu.eiInhibit := rfl
@[simp] theorem State.setMain_prefixInhibit (m : RegSet) : (s.setMain m).cpu.prefixInhibit = s.cpu.prefixInhibit := rfl
@[simp] theorem State.setMain_intPending (m : RegSet) : (s.setMain m).cpu.intPending = s.cpu.intPending := rfl
@[simp] theorem State.setMain_intVec (m : RegSet) : (s.setMain m).cpu.intVec = s.cpu.intVec := rfl
@[simp] theorem State.setMain_nmiPending (m : RegSet) : (s.setMain m).cpu.nmiPending = s.cpu.nmiPending := rfl
@[simp] theorem State.setMain_cfg (m : RegSet) : (s.setMain m).cfg = s.cfg := rfl
@[simp] theorem State.setMain_mem (m : RegSet) : (s.setMain m).mem = s.mem := rfl
@[simp] theorem State.setMain_io (m : RegSet) : (s.setMain m).io = s.io := rfl
@[simp] theorem State.setMain_clock (m : RegSet) : (s.setMain m).clock = s.clock := rfl
@[simp] theorem State.setMain_life (m : RegSet) : (s.setMain m).life = s.life := rfl
@[simp] theorem State.setMain_draws (m : RegSet) : (s.setMain m).draws = s.draws := rfl
@[simp] theorem State.setMain_stepCycles (m : RegSet) : (s.setMain m).stepCycles = s.stepCycles := rfl

@[simp] theorem State.setShadow_main (m : RegSet) : (s.setShadow m).cpu.main = s.cpu.main := rfl
@[simp] theorem State.setShadow_shadow (m : RegSet) : (s.setShadow m).cpu.shadow = m := rfl
@[simp] theorem State.setShadow_ix (m : RegSet) : (s.setShadow m).cpu.ix = s.cpu.ix := rfl
@[simp] theorem State.setShadow_iy (m : RegSet) : (s.setShadow m).cpu.iy = s.cpu.iy := rfl
@[simp] theorem State.setShadow_sp (m : RegSet) : (s.setShadow m).cpu.sp = s.cpu.sp := rfl
@[simp] theorem State.setShadow_pc (m : RegSet) : (s.setShadow m).cpu.pc = s.cpu.pc := rfl
@[simp] theorem State.setShadow_wz (m : RegSet) : (s.setShadow m).cpu.wz = s.cpu.wz := rfl
@[simp] theorem State.setShadow_i (m : RegSet) : (s.setShadow m).cpu.i = s.cpu.i := rfl
@[simp] theorem State.setShadow_r (m : RegSet) : (s.setShadow m).cpu.r = s.cpu.r := rfl
@[simp] theorem State.setShadow_iff1 (m : RegSet) : (s.setShadow m).cpu.iff1 = s.cpu.iff1 := rfl
@[simp] theorem State.setShadow_iff2 (m : RegSet) : (s.setShadow m).cpu.iff2 = s.cpu.iff2 := rfl
@[simp] theorem State.setShadow_im (m : RegSet) : (s.setShadow m).cpu.im = s.cpu.im := rfl
@[simp] theorem State.setShadow_halted (m : RegSet) : (s.setShadow m).cpu.halted = s.cpu.halted := rfl
@[simp] theorem State.setShadow_eiInhibit (m : RegSet) : (s.setShadow m).cpu.eiInhibit = s.cpu.eiInhibit := rfl
@[simp] theorem State.setShadow_prefixInhibit (m : RegSet) : (s.setShadow m).cpu.prefixInhibit = s.cpu.prefixInhibit := rfl
@[simp] theorem State.setShadow_intPending (m : RegSet) : (s.setShadow m).cpu.intPending = s.cpu.intPending := rfl
@[simp] theorem State.setShadow_intVec (m : RegSet) : (s.setShadow m).cpu.intVec = s.cpu.intVec := rfl
@[simp] theorem State.setShadow_nmiPending (m : RegSet) : (s.setShadow m).cpu.nmiPending = s.cpu.nmiPending := rfl
@[simp] theorem State.setShadow_cfg (m : RegSet) : (s.setShadow m).cfg = s.cfg := rfl
@[simp] theorem State.setShadow_mem (m : RegSet) : (s.setShadow m).mem = s.mem := rfl
@[simp] theorem State.setShadow_io (m : RegSet) : (s.setShadow m).io = s.io := rfl
@[simp] theorem State.setShadow_clock (m : RegSet) : (s.setShadow m).clock = s.clock := rfl
@[simp] theorem State.setShadow_life (m : RegSet) : (s.setShadow m).life = s.life := rfl
@[simp] theorem State.setShadow_draws (m : RegSet) : (s.setShadow m).draws = s.draws := rfl
@[simp] theorem State.setShadow_stepCycles (m : RegSet) : (s.setShadow m).stepCycles = s.stepCycles := rfl

@[simp] theorem State.setSp_main (w : Word) : (s.setSp w).cpu.main = s.cpu.main := rfl
@[simp] theorem State.setSp_shadow (w : Word) : (s.setSp w).cpu.shadow = s.cpu.shadow := rfl
@[simp] theorem State.setSp_ix (w : Word) : (s.setSp w).cpu.ix = s.cpu.ix := rfl
@[simp] theorem State.setSp_iy (w : Word) : (s.setSp w).cpu.iy = s.cpu.iy := rfl
@[simp] theorem State.setSp_sp (w : Word) : (s.setSp w).cpu.sp = w := rfl
@[simp] theorem State.setSp_pc (w : Word) : (s.setSp w).cpu.pc = s.cpu.pc := rfl
@[simp] theorem State.setSp_wz (w : Word) : (s.setSp w).cpu.wz = s.cpu.wz := rfl
@[simp] theorem State.setSp_i (w : Word) : (s.setSp w).cpu.i = s.cpu.i := rfl
@[simp] theorem State.setSp_r (w : Word) : (s.setSp w).cpu.r = s.cpu.r := rfl
@[simp] theorem State.setSp_iff1 (w : Word) : (s.setSp w).cpu.iff1 = s.cpu.iff1 := rfl
@[simp] theorem State.setSp_iff2 (w : Word) : (s.setSp w).cpu.iff2 = s.cpu.iff2 := rfl
@[simp] theorem State.setSp_im (w : Word) : (s.setSp w).cpu.im = s.cpu.im := rfl
@[simp] theorem State.setSp_halted (w : Word) : (s.setSp w).cpu.halted = s.cpu.halted := rfl
@[simp] theorem State.setSp_eiInhibit (w : Word) : (s.setSp w).cpu.eiInhibit = s.cpu.eiInhibit := rfl
@[simp] theorem State.setSp_prefixInhibit (w : Word) : (s.setSp w).cpu.prefixInhibit = s.cpu.prefixInhibit := rfl
@[simp] theorem State.setSp_intPending (w : Word) : (s.setSp w).cpu.intPending = s.cpu.intPending := rfl
@[simp] theorem State.setSp_intVec (w : Word) : (s.setSp w).cpu.intVec = s.cpu.intVec := rfl
@[simp] theorem State.setSp_nmiPending (w : Word) : (s.setSp w).cpu.nmiPending = s.cpu.nmiPending := rfl
@[simp] theorem State.setSp_cfg (w : Word) : (s.setSp w).cfg = s.cfg := rfl
@[simp] theorem State.setSp_mem (w : Word) : (s.setSp w).mem = s.mem := rfl
@[simp] theorem State.setSp_io (w : Word) : (s.setSp w).io = s.io := rfl
@[simp] theorem State.setSp_clock (w : Word) : (s.setSp w).clock = s.clock := rfl
@[simp] theorem State.setSp_life (w : Word) : (s.setSp w).life = s.life := rfl
@[simp] theorem State.setSp_draws (w : Word) : (s.setSp w).draws = s.draws := rfl
@[simp] theorem State.setSp_stepCycles (w : Word) : (s.setSp w).stepCycles = s.stepCycles := rfl

@[simp] theorem State.setPc_main (w : Word) : (s.setPc w).cpu.main = s.cpu.main := rfl
@[simp] theorem State.setPc_shadow (w : Word) : (s.setPc w).cpu.shadow = s.cpu.shadow := rfl
@[simp] theorem State.setPc_ix (w : Word) : (s.setPc w).cpu.ix = s.cpu.ix := rfl
@[simp] theorem State.setPc_iy (w : Word) : (s.setPc w).cpu.iy = s.cpu.iy := rfl
@[simp] theorem State.setPc_sp (w : Word) : (s.setPc w).cpu.sp = s.cpu.sp := rfl
@[simp] theorem State.setPc_pc (w : Word) : (s.setPc w).cpu.pc = w := rfl
@[simp] theorem State.setPc_wz (w : Word) : (s.setPc w).cpu.wz = s.cpu.wz := rfl
@[simp] theorem State.setPc_i (w : Word) : (s.setPc w).cpu.i = s.cpu.i := rfl
@[simp] theorem State.setPc_r (w : Word) : (s.setPc w).cpu.r = s.cpu.r := rfl
@[simp] theorem State.setPc_iff1 (w : Word) : (s.setPc w).cpu.iff1 = s.cpu.iff1 := rfl
@[simp] theorem State.setPc_iff2 (w : Word) : (s.setPc w).cpu.iff2 = s.cpu.iff2 := rfl
@[simp] theorem State.setPc_im (w : Word) : (s.setPc w).cpu.im = s.cpu.im := rfl
@[simp] theorem State.setPc_halted (w : Word) : (s.setPc w).cpu.halted = s.cpu.halted := rfl
@[simp] theorem State.setPc_eiInhibit (w : Word) : (s.setPc w).cpu.eiInhibit = s.cpu.eiInhibit := rfl
@[simp] theorem State.setPc_prefixInhibit (w : Word) : (s.setPc w).cpu.prefixInhibit = s.cpu.prefixInhibit := rfl
@[simp] theorem State.setPc_intPending (w : Word) : (s.setPc w).cpu.intPending = s.cpu.intPending := rfl
@[simp] theorem State.setPc_intVec (w : Word) : (s.setPc w).cpu.intVec = s.cpu.intVec := rfl
@[simp] theorem State.setPc_nmiPending (w : Word) : (s.setPc w).cpu.nmiPending = s.cpu.nmiPending := rfl
@[simp] theorem State.setPc_cfg (w : Word) : (s.setPc w).cfg = s.cfg := rfl
@[simp] theorem State.setPc_mem (w : Word) : (s.setPc w).mem = s.mem := rfl
@[simp] theorem State.setPc_io (w : Word) : (s.setPc w).io = s.io := rfl
@[simp] theorem State.setPc_clock (w : Word) : (s.setPc w).clock = s.clock := rfl
@[simp] theorem State.setPc_life (w : Word) : (s.setPc w).life = s.life := rfl
@[simp] theorem State.setPc_draws (w : Word) : (s.setPc w).draws = s.draws := rfl
@[simp] theorem State.setPc_stepCycles (w : Word) : (s.setPc w).stepCycles = s.stepCycles := rfl

@[simp] theorem State.setWz_main (w : Word) : (s.setWz w).cpu.main = s.cpu.main := rfl
@[simp] theorem State.setWz_shadow (w : Word) : (s.setWz w).cpu.shadow = s.cpu.shadow := rfl
@[simp] theorem State.setWz_ix (w : Word) : (s.setWz w).cpu.ix = s.cpu.ix := rfl
@[simp] theorem State.setWz_iy (w : Word) : (s.setWz w).cpu.iy = s.cpu.iy := rfl
@[simp] theorem State.setWz_sp (w : Word) : (s.setWz w).cpu.sp = s.cpu.sp := rfl
@[simp] theorem State.setWz_pc (w : Word) : (s.setWz w).cpu.pc = s.cpu.pc := rfl
@[simp] theorem State.setWz_wz (w : Word) : (s.setWz w).cpu.wz = w := rfl
@[simp] theorem State.setWz_i (w : Word) : (s.setWz w).cpu.i = s.cpu.i := rfl
@[simp] theorem State.setWz_r (w : Word) : (s.setWz w).cpu.r = s.cpu.r := rfl
@[simp] theorem State.setWz_iff1 (w : Word) : (s.setWz w).cpu.iff1 = s.cpu.iff1 := rfl
@[simp] theorem State.setWz_iff2 (w : Word) : (s.setWz w).cpu.iff2 = s.cpu.iff2 := rfl
@[simp] theorem State.setWz_im (w : Word) : (s.setWz w).cpu.im = s.cpu.im := rfl
@[simp] theorem State.setWz_halted (w : Word) : (s.setWz w).cpu.halted = s.cpu.halted := rfl
@[simp] theorem State.setWz_eiInhibit (w : Word) : (s.setWz w).cpu.eiInhibit = s.cpu.eiInhibit := rfl
@[simp] theorem State.setWz_prefixInhibit (w : Word) : (s.setWz w).cpu.prefixInhibit = s.cpu.prefixInhibit := rfl
@[simp] theorem State.setWz_intPending (w : Word) : (s.setWz w).cpu.intPending = s.cpu.intPending := rfl
@[simp] theorem State.setWz_intVec (w : Word) : (s.setWz w).cpu.intVec = s.cpu.intVec := rfl
@[simp] theorem State.setWz_nmiPending (w : Word) : (s.setWz w).cpu.nmiPending = s.cpu.nmiPending := rfl
@[simp] theorem State.setWz_cfg (w : Word) : (s.setWz w).cfg = s.cfg := rfl
@[simp] theorem State.setWz_mem (w : Word) : (s.setWz w).mem = s.mem := rfl
@[simp] theorem State.setWz_io (w : Word) : (s.setWz w).io = s.io := rfl
@[simp] theorem State.setWz_clock (w : Word) : (s.setWz w).clock = s.clock := rfl
@[simp] theorem State.setWz_life (w : Word) : (s.setWz w).life = s.life := rfl
@[simp] theorem State.setWz_draws (w : Word) : (s.setWz w).draws = s.draws := rfl
@[simp] theorem State.setWz_stepCycles (w : Word) : (s.setWz w).stepCycles = s.stepCycles := rfl

@[simp] theorem State.setR_main (v : Byte) : (s.setR v).cpu.main = s.cpu.main := rfl
@[simp] theorem State.setR_shadow (v : Byte) : (s.setR v).cpu.shadow = s.cpu.shadow := rfl
@[simp] theorem State.setR_ix (v : Byte) : (s.setR v).cpu.ix = s.cpu.ix := rfl
@[simp] theorem State.setR_iy (v : Byte) : (s.setR v).cpu.iy = s.cpu.iy := rfl
@[simp] theorem State.setR_sp (v : Byte) : (s.setR v).cpu.sp = s.cpu.sp := rfl
@[simp] theorem State.setR_pc (v : Byte) : (s.setR v).cpu.pc = s.cpu.pc := rfl
@[simp] theorem State.setR_wz (v : Byte) : (s.setR v).cpu.wz = s.cpu.wz := rfl
@[simp] theorem State.setR_i (v : Byte) : (s.setR v).cpu.i = s.cpu.i := rfl
@[simp] theorem State.setR_r (v : Byte) : (s.setR v).cpu.r = v := rfl
@[simp] theorem State.setR_iff1 (v : Byte) : (s.setR v).cpu.iff1 = s.cpu.iff1 := rfl
@[simp] theorem State.setR_iff2 (v : Byte) : (s.setR v).cpu.iff2 = s.cpu.iff2 := rfl
@[simp] theorem State.setR_im (v : Byte) : (s.setR v).cpu.im = s.cpu.im := rfl
@[simp] theorem State.setR_halted (v : Byte) : (s.setR v).cpu.halted = s.cpu.halted := rfl
@[simp] theorem State.setR_eiInhibit (v : Byte) : (s.setR v).cpu.eiInhibit = s.cpu.eiInhibit := rfl
@[simp] theorem State.setR_prefixInhibit (v : Byte) : (s.setR v).cpu.prefixInhibit = s.cpu.prefixInhibit := rfl
@[simp] theorem State.setR_intPending (v : Byte) : (s.setR v).cpu.intPending = s.cpu.intPending := rfl
@[simp] theorem State.setR_intVec (v : Byte) : (s.setR v).cpu.intVec = s.cpu.intVec := rfl
@[simp] theorem State.setR_nmiPending (v : Byte) : (s.setR v).cpu.nmiPending = s.cpu.nmiPending := rfl
@[simp] theorem State.setR_cfg (v : Byte) : (s.setR v).cfg = s.cfg := rfl
@[simp] theorem State.setR_mem (v : Byte) : (s.setR v).mem = s.mem := rfl
@[simp] theorem State.setR_io (v : Byte) : (s.setR v).io = s.io := rfl
@[simp] theorem State.setR_clock (v : Byte) : (s.setR v).clock = s.clock := rfl
@[simp] theorem State.setR_life (v : Byte) : (s.setR v).life = s.life := rfl
@[simp] theorem State.setR_draws (v : Byte) : (s.setR v).draws = s.draws := rfl
@[simp] theorem State.setR_stepCycles (v : Byte) : (s.setR v).stepCycles = s.stepCycles := rfl

@[simp] theorem State.setIff_main (a b : Bool) : (s.setIff a b).cpu.main = s.cpu.main := rfl
@[simp] theorem State.setIff_shadow (a b : Bool) : (s.setIff a b).cpu.shadow = s.cpu.shadow := rfl
@[simp] theorem State.setIff_ix (a b : Bool) : (s.setIff a b).cpu.ix = s.cpu.ix := rfl
@[simp] theorem State.setIff_iy (a b : Bool) : (s.setIff a b).cpu.iy = s.cpu.iy := rfl
@[simp] theorem State.setIff_sp (a b : Bool) : (s.setIff a b).cpu.sp = s.cpu.sp := rfl
@[simp] theorem State.setIff_pc (a b : Bool) : (s.setIff a b).cpu.pc = s.cpu.pc := rfl
@[simp] theorem State.setIff_wz (a b : Bool) : (s.setIff a b).cpu.wz = s.cpu.wz := rfl
@[simp] theorem State.setIff_i (a b : Bool) : (s.setIff a b).cpu.i = s.cpu.i := rfl
@[simp] theorem State.setIff_r (a b : Bool) : (s.setIff a b).cpu.r = s.cpu.r := rfl
@[simp] theorem State.setIff_iff1 (a b : Bool) : (s.setIff a b).cpu.iff1 = a := rfl
@[simp] theorem State.setIff_iff2 (a b : Bool) : (s.setIff a b).cpu.iff2 = b := rfl
@[simp] theorem State.setIff_im (a b : Bool) : (s.setIff a b).cpu.im = s.cpu.im := rfl
@[simp] theorem State.setIff_halted (a b : Bool) : (s.setIff a b).cpu.halted = s.cpu.halted := rfl
@[simp] theorem State.setIff_eiInhibit (a b : Bool) : (s.setIff a b).cpu.eiInhibit = s.cpu.eiInhibit := rfl
@[simp] theorem State.setIff_prefixInhibit (a b : Bool) : (s.setIff a b).cpu.prefixInhibit = s.cpu.prefixInhibit := rfl
@[simp] theorem State.setIff_intPending (a b : Bool) : (s.setIff a b).cpu.intPending = s.cpu.intPending := rfl
@[simp] theorem State.setIff_intVec (a b : Bool) : (s.setIff a b).cpu.intVec = s.cpu.intVec := rfl
@[simp] theorem State.setIff_nmiPending (a b : Bool) : (s.setIff a b).cpu.nmiPending = s.cpu.nmiPending := rfl
@[simp] theorem State.setIff_cfg (a b : Bool) : (s.setIff a b).cfg = s.cfg := rfl
@[simp] theorem State.setIff_mem (a b : Bool) : (s.setIff a b).mem = s.mem := rfl
@[simp] theorem State.setIff_io (a b : Bool) : (s.setIff a b).io = s.io := rfl
@[simp] theorem State.setIff_clock (a b : Bool) : (s.setIff a b).clock = s.clock := rfl
@[simp] theorem State.setIff_life (a b : Bool) : (s.setIff a b).life = s.life := rfl
@[simp] theorem State.setIff_draws (a b : Bool) : (s.setIff a b).draws = s.draws := rfl
@[simp] theorem State.setIff_stepCycles (a b : Bool) : (s.setIff a b).stepCycles = s.stepCycles := rfl

@[simp] theorem State.setInhibits_main (a b : Bool) : (s.setInhibits a b).cpu.main = s.cpu.main := rfl
@[simp] theorem State.setInhibits_shadow (a b : Bool) : (s.setInhibits a b).cpu.shadow = s.cpu.shadow := rfl
@[simp] theorem State.setInhibits_ix (a b : Bool) : (s.setInhibits a b).cpu.ix = s.cpu.ix := rfl
@[simp] theorem State.setInhibits_iy (a b : Bool) : (s.setInhibits a b).cpu.iy = s.cpu.iy := rfl
@[simp] theorem State.setInhibits_sp (a b : Bool) : (s.setInhibits a b).cpu.sp = s.cpu.sp := rfl
@[simp] theorem State.setInhibits_pc (a b : Bool) : (s.setInhibits a b).cpu.pc = s.cpu.pc := rfl
@[simp] theorem State.setInhibits_wz (a b : Bool) : (s.setInhibits a b).cpu.wz = s.cpu.wz := rfl
@[simp] theorem State.setInhibits_i (a b : Bool) : (s.setInhibits a b).cpu.i = s.cpu.i := rfl
@[simp] theorem State.setInhibits_r (a b : Bool) : (s.setInhibits a b).cpu.r = s.cpu.r := rfl
@[simp] theorem State.setInhibits_iff1 (a b : Bool) : (s.setInhibits a b).cpu.iff1 = s.cpu.iff1 := rfl
@[simp] theorem State.setInhibits_iff2 (a b : Bool) : (s.setInhibits a b).cpu.iff2 = s.cpu.iff2 := rfl
@[simp] theorem State.setInhibits_im (a b : Bool) : (s.setInhibits a b).cpu.im = s.cpu.im := rfl
@[simp] theorem State.setInhibits_halted (a b : Bool) : (s.setInhibits a b).cpu.halted = s.cpu.halted := rfl
@[simp] theorem State.setInhibits_eiInhibit (a b : Bool) : (s.setInhibits a b).cpu.eiInhibit = a := rfl
@[simp] theorem State.setInhibits_prefixInhibit (a b : Bool) : (s.setInhibits a b).cpu.prefixInhibit = b := rfl
@[simp] theorem State.setInhibits_intPending (a b : Bool) : (s.setInhibits a b).cpu.intPending = s.cpu.intPending := rfl
@[simp] theorem State.setInhibits_intVec (a b : Bool) : (s.setInhibits a b).cpu.intVec = s.cpu.intVec := rfl
@[simp] theorem State.setInhibits_nmiPending (a b : Bool) : (s.setInhibits a b).cpu.nmiPending = s.cpu.nmiPending := rfl
@[simp] theorem State.setInhibits_cfg (a b : Bool) : (s.setInhibits a b).cfg = s.cfg := rfl
@[simp] theorem State.setInhibits_mem (a b : Bool) : (s.setInhibits a b).mem = s.mem := rfl
@[simp] theorem State.setInhibits_io (a b : Bool) : (s.setInhibits a b).io = s.io := rfl
@[simp] theorem State.setInhibits_clock (a b : Bool) : (s.setInhibits a b).clock = s.clock := rfl
@[simp] theorem State.setInhibits_life (a b : Bool) : (s.setInhibits a b).life = s.life := rfl
@[simp] theorem State.setInhibits_draws (a b : Bool) : (s.setInhibits a b).draws = s.draws := rfl
@[simp] theorem State.setInhibits_stepCycles (a b : Bool) : (s.setInhibits a b).stepCycles = s.stepCycles := rfl

@[simp] theorem State.took_main (n : Nat) : (s.took n).cpu.main = s.cpu.main := rfl
@[simp] theorem State.took_shadow (n : Nat) : (s.took n).cpu.shadow = s.cpu.shadow := rfl
@[simp] theorem State.took_ix (n : Nat) : (s.took n).cpu.ix = s.cpu.ix := rfl
@[simp] theorem State.took_iy (n : Nat) : (s.took n).cpu.iy = s.cpu.iy := rfl
@[simp] theorem State.took_sp (n : Nat) : (s.took n).cpu.sp = s.cpu.sp := rfl
@[simp] theorem State.took_pc (n : Nat) : (s.took n).cpu.pc = s.cpu.pc := rfl
@[simp] theorem State.took_wz (n : Nat) : (s.took n).cpu.wz = s.cpu.wz := rfl
@[simp] theorem State.took_i (n : Nat) : (s.took n).cpu.i = s.cpu.i := rfl
@[simp] theorem State.took_r (n : Nat) : (s.took n).cpu.r = s.cpu.r := rfl
@[simp] theorem State.took_iff1 (n : Nat) : (s.took n).cpu.iff1 = s.cpu.iff1 := rfl
@[simp] theorem State.took_iff2 (n : Nat) : (s.took n).cpu.iff2 = s.cpu.iff2 := rfl
@[simp] theorem State.took_im (n : Nat) : (s.took n).cpu.im = s.cpu.im := rfl
@[simp] theorem State.took_halted (n : Nat) : (s.took n).cpu.halted = s.cpu.halted := rfl
@[simp] theorem State.took_eiInhibit (n : Nat) : (s.took n).cpu.eiInhibit = s.cpu.eiInhibit := rfl
@[simp] theorem State.took_prefixInhibit (n : Nat) : (s.took n).cpu.prefixInhibit = s.cpu.prefixInhibit := rfl
@[simp] theorem State.took_intPending (n : Nat) : (s.took n).cpu.intPending = s.cpu.intPending := rfl
@[simp] theorem State.took_intVec (n : Nat) : (s.took n).cpu.intVec = s.cpu.intVec := rfl
@[simp] theorem State.took_nmiPending (n : Nat) : (s.took n).cpu.nmiPending = s.cpu.nmiPending := rfl
@[simp] theorem State.took_cfg (n : Nat) : (s.took n).cfg = s.cfg := rfl
@[simp] theorem State.took_mem (n : Nat) : (s.took n).mem = s.mem := rfl
@[simp] theorem State.took_io (n : Nat) : (s.took n).io = s.io := rfl
@[simp] theorem State.took_clock (n : Nat) : (s.took n).clock = s.clock := rfl
@[simp] theorem State.took_life (n : Nat) : (s.took n).life = s.life := rfl
@[simp] theorem State.took_draws (n : Nat) : (s.took n).draws = s.draws := rfl
@[simp] theorem State.took_stepCycles (n : Nat) : (s.took n).stepCycles = n := rfl

@[simp] theorem State.setIndex_main (p : IndexReg) (w : Word) : (s.setIndex p w).cpu.main = s.cpu.main := by cases p <;> rfl
@[simp] theorem State.setIndex_shadow (p : IndexReg) (w : Word) : (s.setIndex p w).cpu.shadow = s.cpu.shadow := by cases p <;> rfl
@[simp] theorem State.setIndex_sp (p : IndexReg) (w : Word) : (s.setIndex p w).cpu.sp = s.cpu.sp := by cases p <;> rfl
@[simp] theorem State.setIndex_pc (p : IndexReg) (w : Word) : (s.setIndex p w).cpu.pc = s.cpu.pc := by cases p <;> rfl
@[simp] theorem State.setIndex_wz (p : IndexReg) (w : Word) : (s.setIndex p w).cpu.wz = s.cpu.wz := by cases p <;> rfl
@[simp] theorem State.setIndex_i (p : IndexReg) (w : Word) : (s.setIndex p w).cpu.i = s.cpu.i := by cases p <;> rfl
@[simp] theorem State.setIndex_r (p : IndexReg) (w : Word) : (s.setIndex p w).cpu.r = s.cpu.r := by cases p <;> rfl
@[simp] theorem State.setIndex_iff1 (p : IndexReg) (w : Word) : (s.setIndex p w).cpu.iff1 = s.cpu.iff1 := by cases p <;> rfl
@[simp] theorem State.setIndex_iff2 (p : IndexReg) (w : Word) : (s.setIndex p w).cpu.iff2 = s.cpu.iff2 := by cases p <;> rfl
@[simp] theorem State.setIndex_im (p : IndexReg) (w : Word) : (s.setIndex p w).cpu.im = s.cpu.im := by cases p <;> rfl
@[simp] theorem State.setIndex_halted (p : IndexReg) (w : Word) : (s.setIndex p w).cpu.halted = s.cpu.halted := by cases p <;> rfl
@[simp] theorem State.setIndex_eiInhibit (p : IndexReg) (w : Word) : (s.setIndex p w).cpu.eiInhibit = s.cpu.eiInhibit := by cases p <;> rfl
@[simp] theorem State.setIndex_prefixInhibit (p : IndexReg) (w : Word) : (s.setIndex p w).cpu.prefixInhibit = s.cpu.prefixInhibit := by cases p <;> rfl
@[simp] theorem State.setIndex_intPending (p : IndexReg) (w : Word) : (s.setIndex p w).cpu.intPending = s.cpu.intPending := by cases p <;> rfl
@[simp] theorem State.setIndex_intVec (p : IndexReg) (w : Word) : (s.setIndex p w).cpu.intVec = s.cpu.intVec := by cases p <;> rfl
@[simp] theorem State.setIndex_nmiPending (p : IndexReg) (w : Word) : (s.setIndex p w).cpu.nmiPending = s.cpu.nmiPending := by cases p <;> rfl
@[simp] theorem State.setIndex_cfg (p : IndexReg) (w : Word) : (s.setIndex p w).cfg = s.cfg := by cases p <;> rfl
@[simp] theorem State.setIndex_mem (p : IndexReg) (w : Word) : (s.setIndex p w).mem = s.mem := by cases p <;> rfl
@[simp] theorem State.setIndex_io (p : IndexReg) (w : Word) : (s.setIndex p w).io = s.io := by cases p <;> rfl
@[simp] theorem State.setIndex_clock (p : IndexReg) (w : Word) : (s.setIndex p w).clock = s.clock := by cases p <;> rfl
@[simp] theorem State.setIndex_life (p : IndexReg) (w : Word) : (s.setIndex p w).life = s.life := by cases p <;> rfl
@[simp] theorem State.setIndex_draws (p : IndexReg) (w : Word) : (s.setIndex p w).draws = s.draws := by cases p <;> rfl
@[simp] theorem State.setIndex_stepCycles (p : IndexReg) (w : Word) : (s.setIndex p w).stepCycles = s.stepCycles := by cases p <;> rfl
@[simp] theorem State.setIndex_ix_ix (w : Word) : (s.setIndex .ix w).cpu.ix = w := rfl
@[simp] theorem State.setIndex_ix_iy (w : Word) : (s.setIndex .ix w).cpu.iy = s.cpu.iy := rfl
@[simp] theorem State.setIndex_iy_iy (w : Word) : (s.setIndex .iy w).cpu.iy = w := rfl
@[simp] theorem State.setIndex_iy_ix (w : Word) : (s.setIndex .iy w).cpu.ix = s.cpu.ix := rfl
@[simp] theorem State.setIndex_index (p : IndexReg) (w : Word) : (s.setIndex p w).index p = w := by cases p <;> rfl
theorem State.setIndex_index_ne {p q : IndexReg} (w : Word) (h : q ≠ p) : (s.setIndex p w).index q = s.index q := by
  cases p <;> cases q <;> first | rfl | exact absurd rfl h

@[simp] theorem State.setKbd_cpu (k : Keyboard) : (s.setKbd k).cpu = s.cpu := rfl
@[simp] theorem State.setKbd_cfg (k : Keyboard) : (s.setKbd k).cfg = s.cfg := rfl
@[simp] theorem State.setKbd_mem (k : Keyboard) : (s.setKbd k).mem = s.mem := rfl
@[simp] theorem State.setKbd_clock (k : Keyboard) : (s.setKbd k).clock = s.clock := rfl
@[simp] theorem State.setKbd_life (k : Keyboard) : (s.setKbd k).life = s.life := rfl
@[simp] theorem State.setKbd_draws (k : Keyboard) : (s.setKbd k).draws = s.draws := rfl
@[simp] theorem State.setKbd_stepCycles (k : Keyboard) : (s.setKbd k).stepCycles = s.stepCycles := rfl
@[simp] theorem State.setKbd_io (k : Keyboard) : (s.setKbd k).io = { s.io with kbd := k } := rfl

@[simp] theorem State.setVideo_cpu (v : Video) : (s.setVideo v).cpu = s.cpu := rfl
@[simp] theorem State.setVideo_cfg (v : Video) : (s.setVideo v).cfg = s.cfg := rfl
@[simp] theorem State.setVideo_mem (v : Video) : (s.setVideo v).mem = s.mem := rfl
@[simp] theorem State.setVideo_clock (v : Video) : (s.setVideo v).clock = s.clock := rfl
@[simp] theorem State.setVideo_life (v : Video) : (s.setVideo v).life = s.life := rfl
@[simp] theorem State.setVideo_draws (v : Video) : (s.setVideo v).draws = s.draws := rfl
@[simp] theorem State.setVideo_stepCycles (v : Video) : (s.setVideo v).stepCycles = s.stepCycles := rfl
@[simp] theorem State.setVideo_io (v : Video) : (s.setVideo v).io = { s.io with video := v } := rfl

@[simp] theorem State.setTimer_cpu (x : Timer) : (s.setTimer x).cpu = s.cpu := rfl
@[simp] theorem State.setTimer_cfg (x : Timer) : (s.setTimer x).cfg = s.cfg := rfl
@[simp] theorem State.setTimer_mem (x : Timer) : (s.setTimer x).mem = s.mem := rfl
@[simp] theorem State.setTimer_clock (x : Timer) : (s.setTimer x).clock = s.clock := rfl
@[simp] theorem State.setTimer_life (x : Timer) : (s.setTimer x).life = s.life := rfl
@[simp] theorem State.setTimer_draws (x : Timer) : (s.setTimer x).draws = s.draws := rfl
@[simp] theorem State.setTimer_stepCycles (x : Timer) : (s.setTimer x).stepCycles = s.stepCycles := rfl
@[simp] theorem State.setTimer_io (x : Timer) : (s.setTimer x).io = { s.io with timer := x } := rfl

@[simp] theorem State.setPio_cpu (x : Pio) : (s.setPio x).cpu = s.cpu := rfl
@[simp] theorem State.setPio_cfg (x : Pio) : (s.setPio x).cfg = s.cfg := rfl
@[simp] theorem State.setPio_mem (x : Pio) : (s.setPio x).mem = s.mem := rfl
@[simp] theorem State.setPio_clock (x : Pio) : (s.setPio x).clock = s.clock := rfl
@[simp] theorem State.setPio_life (x : Pio) : (s.setPio x).life = s.life := rfl
@[simp] theorem State.setPio_draws (x : Pio) : (s.setPio x).draws = s.draws := rfl
@[simp] theorem State.setPio_stepCycles (x : Pio) : (s.setPio x).stepCycles = s.stepCycles := rfl
@[simp] theorem State.setPio_io (x : Pio) : (s.setPio x).io = { s.io with pio := x } := rfl

/-! The derived register writes. -/

@[simp] theorem State.setA_eq (v : Byte) : s.setA v = s.setMain { s.cpu.main with a := v } := rfl
@[simp] theorem State.setF_eq (v : Byte) : s.setF v = s.setMain { s.cpu.main with f := v } := rfl
@[simp] theorem State.setHL_eq (w : Word) : s.setHL w = s.setMain (s.cpu.main.putHL w) := rfl
@[simp] theorem State.setReg8_eq (r : Reg8) (v : Byte) : s.setReg8 r v = s.setMain (s.cpu.main.put r v) := rfl
@[simp] theorem State.a_eq : s.a = s.cpu.main.a := rfl
@[simp] theorem State.f_eq : s.f = s.cpu.main.f := rfl
@[simp] theorem State.reg8_eq (r : Reg8) : s.reg8 r = s.cpu.main.get r := rfl

theorem RegSet.get_put (m : RegSet) (r q : Reg8) (v : Byte) : (m.put r v).get q = if q = r then v else m.get q := by
  cases r <;> cases q <;> rfl
@[simp] theorem RegSet.get_put_self (m : RegSet) (r : Reg8) (v : Byte) : (m.put r v).get r = v := by cases r <;> rfl
@[simp] theorem RegSet.put_f (m : RegSet) (r : Reg8) (v : Byte) : (m.put r v).f = m.f := by cases r <;> rfl

@[simp] theorem hi_joinBytes (h l : Byte) : hi (joinBytes h l) = h := BitVec.extractLsb'_append_eq_left
@[simp] theorem lo_joinBytes (h l : Byte) : lo (joinBytes h l) = l := BitVec.extractLsb'_append_eq_right
theorem joinBytes_toNat (h l : Byte) : (joinBytes h l).toNat = 256 * h.toNat + l.toNat := by
  have e : (joinBytes h l).toNat = h.toNat <<< 8 ||| l.toNat := BitVec.toNat_append h l
  rw [e, ← Nat.shiftLeft_add_eq_or_of_lt l.isLt, Nat.shiftLeft_eq]
  omega
@[simp] theorem joinBytes_hi_lo (w : Word) : joinBytes (hi w) (lo w) = w := by
  apply BitVec.eq_of_toNat_eq
  have := w.isLt
  rw [joinBytes_toNat]
  simp [hi, lo, Nat.shiftRight_eq_div_pow]
  omega

@[simp] theorem RegSet.putBC_bc (m : RegSet) (w : Word) : (m.putBC w).bc = w := joinBytes_hi_lo w
@[simp] theorem RegSet.putDE_de (m : RegSet) (w : Word) : (m.putDE w).de = w := joinBytes_hi_lo w
@[simp] theorem RegSet.putHL_hl (m : RegSet) (w : Word) : (m.putHL w).hl = w := joinBytes_hi_lo w
@[simp] theorem RegSet.putAF_af (m : RegSet) (w : Word) : (m.putAF w).af = w := joinBytes_hi_lo w

/-! The flags of a packed F. -/

@[simp] theorem flagS_packFlags : ∀ s z y h x pv n c, flagS (packFlags s z y h x pv n c) = s := by decide
@[simp] theorem flagZ_packFlags : ∀ s z y h x pv n c, flagZ (packFlags s z y h x pv n c) = z := by decide
@[simp] theorem flagY_packFlags : ∀ s z y h x pv n c, flagY (packFlags s z y h x pv n c) = y := by decide
@[simp] theorem flagH_packFlags : ∀ s z y h x pv n c, flagH (packFlags s z y h x pv n c) = h := by decide
@[simp] theorem flagX_packFlags : ∀ s z y h x pv n c, flagX (packFlags s z y h x pv n c) = x := by decide
@[simp] theorem flagPV_packFlags : ∀ s z y h x pv n c, flagPV (packFlags s z y h x pv n c) = pv := by decide
@[simp] theorem flagN_packFlags : ∀ s z y h x pv n c, flagN (packFlags s z y h x pv n c) = n := by decide
@[simp] theorem flagC_packFlags : ∀ s z y h x pv n c, flagC (packFlags s z y h x pv n c) = c := by decide

/-! Writing the flags: the only fields it changes are F and the count of draws. -/

@[simp] theorem State.writeFlags_shadow (f : Byte) : (s.writeFlags f).cpu.shadow = s.cpu.shadow := by
  unfold State.writeFlags; split <;> rfl
@[simp] theorem State.writeFlags_ix (f : Byte) : (s.writeFlags f).cpu.ix = s.cpu.ix := by
  unfold State.writeFlags; split <;> rfl
@[simp] theorem State.writeFlags_iy (f : Byte) : (s.writeFlags f).cpu.iy = s.cpu.iy := by
  unfold State.writeFlags; split <;> rfl
@[simp] theorem State.writeFlags_sp (f : Byte) : (s.writeFlags f).cpu.sp = s.cpu.sp := by
  unfold State.writeFlags; split <;> rfl
@[simp] theorem State.writeFlags_pc (f : Byte) : (s.writeFlags f).cpu.pc = s.cpu.pc := by
  unfold State.writeFlags; split <;> rfl
@[simp] theorem State.writeFlags_wz (f : Byte) : (s.writeFlags f).cpu.wz = s.cpu.wz := by
  unfold State.writeFlags; split <;> rfl
@[simp] theorem State.writeFlags_i (f : Byte) : (s.writeFlags f).cpu.i = s.cpu.i := by
  unfold State.writeFlags; split <;> rfl
@[simp] theorem State.writeFlags_r (f : Byte) : (s.writeFlags f).cpu.r = s.cpu.r := by
  unfold State.writeFlags; split <;> rfl
@[simp] theorem State.writeFlags_iff1 (f : Byte) : (s.writeFlags f).cpu.iff1 = s.cpu.iff1 := by
  unfold State.writeFlags; split <;> rfl
@[simp] theorem State.writeFlags_iff2 (f : Byte) : (s.writeFlags f).cpu.iff2 = s.cpu.iff2 := by
  unfold State.writeFlags; split <;> rfl
@[simp] theorem State.writeFlags_im (f : Byte) : (s.writeFlags f).cpu.im = s.cpu.im := by
  unfold State.writeFlags; split <;> rfl
@[simp] theorem State.writeFlags_halted (f : Byte) : (s.writeFlags f).cpu.halted = s.cpu.halted := by
  unfold State.writeFlags; split <;> rfl
@[simp] theorem State.writeFlags_eiInhibit (f : Byte) : (s.writeFlags f).cpu.eiInhibit = s.cpu.eiInhibit := by
  unfold State.writeFlags; split <;> rfl
@[simp] theorem State.writeFlags_prefixInhibit (f : Byte) : (s.writeFlags f).cpu.prefixInhibit = s.cpu.prefixInhibit := by
  unfold State.writeFlags; split <;> rfl
@[simp] theorem State.writeFlags_intPending (f : Byte) : (s.writeFlags f).cpu.intPending = s.cpu.intPending := by
  unfold State.writeFlags; split <;> rfl
@[simp] theorem State.writeFlags_intVec (f : Byte) : (s.writeFlags f).cpu.intVec = s.cpu.intVec := by
  unfold State.writeFlags; split <;> rfl
@[simp] theorem State.writeFlags_nmiPending (f : Byte) : (s.writeFlags f).cpu.nmiPending = s.cpu.nmiPending := by
  unfold State.writeFlags; split <;> rfl
@[simp] theorem State.writeFlags_cfg (f : Byte) : (s.writeFlags f).cfg = s.cfg := by
  unfold State.writeFlags; split <;> rfl
@[simp] theorem State.writeFlags_mem (f : Byte) : (s.writeFlags f).mem = s.mem := by
  unfold State.writeFlags; split <;> rfl
@[simp] theorem State.writeFlags_io (f : Byte) : (s.writeFlags f).io = s.io := by
  unfold State.writeFlags; split <;> rfl
@[simp] theorem State.writeFlags_clock (f : Byte) : (s.writeFlags f).clock = s.clock := by
  unfold State.writeFlags; split <;> rfl
@[simp] theorem State.writeFlags_life (f : Byte) : (s.writeFlags f).life = s.life := by
  unfold State.writeFlags; split <;> rfl
@[simp] theorem State.writeFlags_stepCycles (f : Byte) : (s.writeFlags f).stepCycles = s.stepCycles := by
  unfold State.writeFlags; split <;> rfl

/-- Writing AF changes A, F and the count of draws only. -/
theorem State.writeAF_state (w : Word) :
    s.writeAF w = { s with
      cpu := { s.cpu with main := { s.cpu.main with a := hi w, f := (s.writeAF w).cpu.main.f } }
      draws := (s.writeAF w).draws } := by
  unfold State.writeAF State.writeFlags; split <;> rfl

/-- Under XY_EXACT the whole of AF is written. -/
theorem State.writeAF_exact (w : Word) (h : s.cfg.xyExact = true) : s.writeAF w = s.setMain (s.cpu.main.putAF w) :=
  if_pos (c := (s.setA (hi w)).cfg.xyExact = true) h

/-! A call of VIDEO_DEV: the only field it changes is the mark of an undefined behaviour. -/

@[simp] theorem Video.calling_line (v : Video) (cfg : Config) (call : VideoCall) : (v.calling cfg call).line = v.line := rfl
@[simp] theorem Video.calling_dot (v : Video) (cfg : Config) (call : VideoCall) : (v.calling cfg call).dot = v.dot := rfl
@[simp] theorem Video.calling_frameCount (v : Video) (cfg : Config) (call : VideoCall) :
    (v.calling cfg call).frameCount = v.frameCount := rfl
@[simp] theorem Video.calling_regs (v : Video) (cfg : Config) (call : VideoCall) : (v.calling cfg call).regs = v.regs := rfl
@[simp] theorem Video.calling_undef (v : Video) (cfg : Config) (call : VideoCall) :
    (v.calling cfg call).undef = (v.undef || cfg.videoUndefined.contains call) := rfl

/-- A call that VIDEO_DEV defines marks nothing. -/
theorem Video.calling_defined (v : Video) (cfg : Config) (call : VideoCall) (h : cfg.videoUndefined = []) :
    v.calling cfg call = v := by
  simp [Video.calling, h]

/-- Writing the flags replaces F in the main set. -/
theorem State.writeFlags_main (f : Byte) : (s.writeFlags f).cpu.main = { s.cpu.main with f := (s.writeFlags f).cpu.main.f } := by
  unfold State.writeFlags; split <;> rfl

/-- Under XY_EXACT the flags written are the rule's. -/
theorem State.writeFlags_exact (f : Byte) (h : s.cfg.xyExact = true) : s.writeFlags f = s.setF f := by
  unfold State.writeFlags; rw [if_pos h]

end Sys2Proof.Machine
end

