-- ==== Sys2Proof/Laws/Ops.lean ====
section
/-! SUPPORT. What each shared operation can do, said once: the bus, the stack, the fetch, the acceptances, the device ticks and
the step. The provers cite these instead of unfolding the operations. -/

namespace Sys2Proof.Machine

variable (s : State)

/-! Reads of the bus change device state and the count of draws only. -/

/-- Reading a target leaves everything but the devices and the count of draws. -/
theorem State.readTarget_frame (t : BusTarget) :
    (s.readTarget t).2 = { s with io := (s.readTarget t).2.io, draws := (s.readTarget t).2.draws } := by
  cases t with
  | device reg => cases reg <;> rfl
  | _ => rfl

@[simp] theorem State.readTarget_cfg (t : BusTarget) : (s.readTarget t).2.cfg = s.cfg := by
  rw [State.readTarget_frame]
@[simp] theorem State.readTarget_cpu (t : BusTarget) : (s.readTarget t).2.cpu = s.cpu := by
  rw [State.readTarget_frame]
@[simp] theorem State.readTarget_mem (t : BusTarget) : (s.readTarget t).2.mem = s.mem := by
  rw [State.readTarget_frame]
@[simp] theorem State.readTarget_clock (t : BusTarget) : (s.readTarget t).2.clock = s.clock := by
  rw [State.readTarget_frame]
@[simp] theorem State.readTarget_life (t : BusTarget) : (s.readTarget t).2.life = s.life := by
  rw [State.readTarget_frame]
@[simp] theorem State.readTarget_stepCycles (t : BusTarget) : (s.readTarget t).2.stepCycles = s.stepCycles := by
  rw [State.readTarget_frame]

@[simp] theorem State.memRead_cfg (a : Word) : (s.memRead a).2.cfg = s.cfg := s.readTarget_cfg _
@[simp] theorem State.memRead_cpu (a : Word) : (s.memRead a).2.cpu = s.cpu := s.readTarget_cpu _
@[simp] theorem State.memRead_mem (a : Word) : (s.memRead a).2.mem = s.mem := s.readTarget_mem _
@[simp] theorem State.memRead_clock (a : Word) : (s.memRead a).2.clock = s.clock := s.readTarget_clock _
@[simp] theorem State.memRead_life (a : Word) : (s.memRead a).2.life = s.life := s.readTarget_life _
@[simp] theorem State.memRead_stepCycles (a : Word) : (s.memRead a).2.stepCycles = s.stepCycles := s.readTarget_stepCycles _

@[simp] theorem State.ioRead_cfg (a : Word) : (s.ioRead a).2.cfg = s.cfg := s.readTarget_cfg _
@[simp] theorem State.ioRead_cpu (a : Word) : (s.ioRead a).2.cpu = s.cpu := s.readTarget_cpu _
@[simp] theorem State.ioRead_mem (a : Word) : (s.ioRead a).2.mem = s.mem := s.readTarget_mem _
@[simp] theorem State.ioRead_clock (a : Word) : (s.ioRead a).2.clock = s.clock := s.readTarget_clock _
@[simp] theorem State.ioRead_life (a : Word) : (s.ioRead a).2.life = s.life := s.readTarget_life _
@[simp] theorem State.ioRead_stepCycles (a : Word) : (s.ioRead a).2.stepCycles = s.stepCycles := s.readTarget_stepCycles _

/-- A read where no device stands leaves the state, and answers the byte `byteAt` says. -/
theorem State.memRead_of_byteAt {a : Word} {v : Byte} (h : s.byteAt a = some v) : s.memRead a = (v, s) := by
  unfold State.byteAt at h
  unfold State.memRead
  split at h <;> cases h
  all_goals rename_i ht; rw [ht]; rfl

/-! Writes of the bus change memory and device state only. -/

theorem State.devWrite_frame (reg : DevReg) (v : Byte) :
    s.devWrite reg v = { s with mem := (s.devWrite reg v).mem, io := (s.devWrite reg v).io } := by
  cases reg <;> rfl

/-- Writing a target leaves everything but memory and the devices. -/
theorem State.writeTarget_frame (t : BusTarget) (v : Byte) :
    s.writeTarget t v = { s with mem := (s.writeTarget t v).mem, io := (s.writeTarget t v).io } := by
  cases t with
  | device reg => exact s.devWrite_frame reg v
  | _ => rfl

@[simp] theorem State.writeTarget_cfg (t : BusTarget) (v : Byte) : (s.writeTarget t v).cfg = s.cfg := by
  rw [State.writeTarget_frame]
@[simp] theorem State.writeTarget_cpu (t : BusTarget) (v : Byte) : (s.writeTarget t v).cpu = s.cpu := by
  rw [State.writeTarget_frame]
@[simp] theorem State.writeTarget_clock (t : BusTarget) (v : Byte) : (s.writeTarget t v).clock = s.clock := by
  rw [State.writeTarget_frame]
@[simp] theorem State.writeTarget_life (t : BusTarget) (v : Byte) : (s.writeTarget t v).life = s.life := by
  rw [State.writeTarget_frame]
@[simp] theorem State.writeTarget_draws (t : BusTarget) (v : Byte) : (s.writeTarget t v).draws = s.draws := by
  rw [State.writeTarget_frame]
@[simp] theorem State.writeTarget_stepCycles (t : BusTarget) (v : Byte) : (s.writeTarget t v).stepCycles = s.stepCycles := by
  rw [State.writeTarget_frame]

@[simp] theorem State.memWrite_cfg (a : Word) (v : Byte) : (s.memWrite a v).cfg = s.cfg := s.writeTarget_cfg _ _
@[simp] theorem State.memWrite_cpu (a : Word) (v : Byte) : (s.memWrite a v).cpu = s.cpu := s.writeTarget_cpu _ _
@[simp] theorem State.memWrite_clock (a : Word) (v : Byte) : (s.memWrite a v).clock = s.clock := s.writeTarget_clock _ _
@[simp] theorem State.memWrite_life (a : Word) (v : Byte) : (s.memWrite a v).life = s.life := s.writeTarget_life _ _
@[simp] theorem State.memWrite_draws (a : Word) (v : Byte) : (s.memWrite a v).draws = s.draws := s.writeTarget_draws _ _
@[simp] theorem State.memWrite_stepCycles (a : Word) (v : Byte) : (s.memWrite a v).stepCycles = s.stepCycles := s.writeTarget_stepCycles _ _

@[simp] theorem State.ioWrite_cfg (a : Word) (v : Byte) : (s.ioWrite a v).cfg = s.cfg := s.writeTarget_cfg _ _
@[simp] theorem State.ioWrite_cpu (a : Word) (v : Byte) : (s.ioWrite a v).cpu = s.cpu := s.writeTarget_cpu _ _
@[simp] theorem State.ioWrite_clock (a : Word) (v : Byte) : (s.ioWrite a v).clock = s.clock := s.writeTarget_clock _ _
@[simp] theorem State.ioWrite_life (a : Word) (v : Byte) : (s.ioWrite a v).life = s.life := s.writeTarget_life _ _
@[simp] theorem State.ioWrite_draws (a : Word) (v : Byte) : (s.ioWrite a v).draws = s.draws := s.writeTarget_draws _ _
@[simp] theorem State.ioWrite_stepCycles (a : Word) (v : Byte) : (s.ioWrite a v).stepCycles = s.stepCycles := s.writeTarget_stepCycles _ _

/-- A write of memory keeps the store canonical. -/
theorem State.writeTarget_wf (t : BusTarget) (v : Byte) (h : s.mem.ram.wf = true) : (s.writeTarget t v).mem.ram.wf = true := by
  cases t with
  | ram key => exact Memory.write_wf key v h
  | device reg => cases reg <;> exact h
  | _ => exact h

/-- Where the bus leads depends on the configuration and the bank selection only. -/
theorem State.memTarget_congr {s t : State} (hc : t.cfg = s.cfg) (hb : t.mem.bankSel = s.mem.bankSel) (a : Word) :
    t.memTarget a = s.memTarget a := by
  unfold State.memTarget; rw [hc, hb]

/-- What memory reads as depends on the configuration and the memory only. -/
theorem State.byteAt_congr {s t : State} (hc : t.cfg = s.cfg) (hm : t.mem = s.mem) (a : Word) : t.byteAt a = s.byteAt a := by
  unfold State.byteAt; rw [State.memTarget_congr hc (by rw [hm]), hc, hm]

/-! Words and the stack. -/

@[simp] theorem State.memRead16_cfg (a : Word) : ((s.memRead16 a).2).cfg = s.cfg := by
  simp [State.memRead16]
@[simp] theorem State.memRead16_cpu (a : Word) : ((s.memRead16 a).2).cpu = s.cpu := by
  simp [State.memRead16]
@[simp] theorem State.memRead16_mem (a : Word) : ((s.memRead16 a).2).mem = s.mem := by
  simp [State.memRead16]
@[simp] theorem State.memRead16_clock (a : Word) : ((s.memRead16 a).2).clock = s.clock := by
  simp [State.memRead16]
@[simp] theorem State.memRead16_life (a : Word) : ((s.memRead16 a).2).life = s.life := by
  simp [State.memRead16]
@[simp] theorem State.memRead16_stepCycles (a : Word) : ((s.memRead16 a).2).stepCycles = s.stepCycles := by
  simp [State.memRead16]

@[simp] theorem State.memWrite16_cfg (a w : Word) : (s.memWrite16 a w).cfg = s.cfg := by
  simp [State.memWrite16]
@[simp] theorem State.memWrite16_cpu (a w : Word) : (s.memWrite16 a w).cpu = s.cpu := by
  simp [State.memWrite16]
@[simp] theorem State.memWrite16_clock (a w : Word) : (s.memWrite16 a w).clock = s.clock := by
  simp [State.memWrite16]
@[simp] theorem State.memWrite16_life (a w : Word) : (s.memWrite16 a w).life = s.life := by
  simp [State.memWrite16]
@[simp] theorem State.memWrite16_draws (a w : Word) : (s.memWrite16 a w).draws = s.draws := by
  simp [State.memWrite16]
@[simp] theorem State.memWrite16_stepCycles (a w : Word) : (s.memWrite16 a w).stepCycles = s.stepCycles := by
  simp [State.memWrite16]

@[simp] theorem State.push_main (w : Word) : (s.push w).cpu.main = s.cpu.main := by
  simp [State.push]
@[simp] theorem State.push_shadow (w : Word) : (s.push w).cpu.shadow = s.cpu.shadow := by
  simp [State.push]
@[simp] theorem State.push_ix (w : Word) : (s.push w).cpu.ix = s.cpu.ix := by
  simp [State.push]
@[simp] theorem State.push_iy (w : Word) : (s.push w).cpu.iy = s.cpu.iy := by
  simp [State.push]
@[simp] theorem State.push_sp (w : Word) : (s.push w).cpu.sp = s.cpu.sp - 1 - 1 := by
  simp [State.push]
@[simp] theorem State.push_pc (w : Word) : (s.push w).cpu.pc = s.cpu.pc := by
  simp [State.push]
@[simp] theorem State.push_wz (w : Word) : (s.push w).cpu.wz = s.cpu.wz := by
  simp [State.push]
@[simp] theorem State.push_i (w : Word) : (s.push w).cpu.i = s.cpu.i := by
  simp [State.push]
@[simp] theorem State.push_r (w : Word) : (s.push w).cpu.r = s.cpu.r := by
  simp [State.push]
@[simp] theorem State.push_iff1 (w : Word) : (s.push w).cpu.iff1 = s.cpu.iff1 := by
  simp [State.push]
@[simp] theorem State.push_iff2 (w : Word) : (s.push w).cpu.iff2 = s.cpu.iff2 := by
  simp [State.push]
@[simp] theorem State.push_im (w : Word) : (s.push w).cpu.im = s.cpu.im := by
  simp [State.push]
@[simp] theorem State.push_halted (w : Word) : (s.push w).cpu.halted = s.cpu.halted := by
  simp [State.push]
@[simp] theorem State.push_eiInhibit (w : Word) : (s.push w).cpu.eiInhibit = s.cpu.eiInhibit := by
  simp [State.push]
@[simp] theorem State.push_prefixInhibit (w : Word) : (s.push w).cpu.prefixInhibit = s.cpu.prefixInhibit := by
  simp [State.push]
@[simp] theorem State.push_intPending (w : Word) : (s.push w).cpu.intPending = s.cpu.intPending := by
  simp [State.push]
@[simp] theorem State.push_intVec (w : Word) : (s.push w).cpu.intVec = s.cpu.intVec := by
  simp [State.push]
@[simp] theorem State.push_nmiPending (w : Word) : (s.push w).cpu.nmiPending = s.cpu.nmiPending := by
  simp [State.push]
@[simp] theorem State.push_cfg (w : Word) : (s.push w).cfg = s.cfg := by
  simp [State.push]
@[simp] theorem State.push_clock (w : Word) : (s.push w).clock = s.clock := by
  simp [State.push]
@[simp] theorem State.push_life (w : Word) : (s.push w).life = s.life := by
  simp [State.push]
@[simp] theorem State.push_draws (w : Word) : (s.push w).draws = s.draws := by
  simp [State.push]
@[simp] theorem State.push_stepCycles (w : Word) : (s.push w).stepCycles = s.stepCycles := by
  simp [State.push]

@[simp] theorem State.pop_main : s.pop.2.cpu.main = s.cpu.main := by
  simp [State.pop]
@[simp] theorem State.pop_shadow : s.pop.2.cpu.shadow = s.cpu.shadow := by
  simp [State.pop]
@[simp] theorem State.pop_ix : s.pop.2.cpu.ix = s.cpu.ix := by
  simp [State.pop]
@[simp] theorem State.pop_iy : s.pop.2.cpu.iy = s.cpu.iy := by
  simp [State.pop]
@[simp] theorem State.pop_sp : s.pop.2.cpu.sp = s.cpu.sp + 1 + 1 := by
  simp [State.pop]
@[simp] theorem State.pop_pc : s.pop.2.cpu.pc = s.cpu.pc := by
  simp [State.pop]
@[simp] theorem State.pop_wz : s.pop.2.cpu.wz = s.cpu.wz := by
  simp [State.pop]
@[simp] theorem State.pop_i : s.pop.2.cpu.i = s.cpu.i := by
  simp [State.pop]
@[simp] theorem State.pop_r : s.pop.2.cpu.r = s.cpu.r := by
  simp [State.pop]
@[simp] theorem State.pop_iff1 : s.pop.2.cpu.iff1 = s.cpu.iff1 := by
  simp [State.pop]
@[simp] theorem State.pop_iff2 : s.pop.2.cpu.iff2 = s.cpu.iff2 := by
  simp [State.pop]
@[simp] theorem State.pop_im : s.pop.2.cpu.im = s.cpu.im := by
  simp [State.pop]
@[simp] theorem State.pop_halted : s.pop.2.cpu.halted = s.cpu.halted := by
  simp [State.pop]
@[simp] theorem State.pop_eiInhibit : s.pop.2.cpu.eiInhibit = s.cpu.eiInhibit := by
  simp [State.pop]
@[simp] theorem State.pop_prefixInhibit : s.pop.2.cpu.prefixInhibit = s.cpu.prefixInhibit := by
  simp [State.pop]
@[simp] theorem State.pop_intPending : s.pop.2.cpu.intPending = s.cpu.intPending := by
  simp [State.pop]
@[simp] theorem State.pop_intVec : s.pop.2.cpu.intVec = s.cpu.intVec := by
  simp [State.pop]
@[simp] theorem State.pop_nmiPending : s.pop.2.cpu.nmiPending = s.cpu.nmiPending := by
  simp [State.pop]
@[simp] theorem State.pop_cfg : s.pop.2.cfg = s.cfg := by
  simp [State.pop]
@[simp] theorem State.pop_mem : s.pop.2.mem = s.mem := by
  simp [State.pop]
@[simp] theorem State.pop_clock : s.pop.2.clock = s.clock := by
  simp [State.pop]
@[simp] theorem State.pop_life : s.pop.2.life = s.life := by
  simp [State.pop]
@[simp] theorem State.pop_stepCycles : s.pop.2.stepCycles = s.stepCycles := by
  simp [State.pop]

/-! Fetching. -/

@[simp] theorem State.readBytes_cfg (n : Nat) (a : Word) : (State.readBytes n a s).2.cfg = s.cfg := by
  induction n generalizing a s with
  | zero => rfl
  | succ n ih => simp [State.readBytes, ih]
@[simp] theorem State.readBytes_cpu (n : Nat) (a : Word) : (State.readBytes n a s).2.cpu = s.cpu := by
  induction n generalizing a s with
  | zero => rfl
  | succ n ih => simp [State.readBytes, ih]
@[simp] theorem State.readBytes_mem (n : Nat) (a : Word) : (State.readBytes n a s).2.mem = s.mem := by
  induction n generalizing a s with
  | zero => rfl
  | succ n ih => simp [State.readBytes, ih]
@[simp] theorem State.readBytes_clock (n : Nat) (a : Word) : (State.readBytes n a s).2.clock = s.clock := by
  induction n generalizing a s with
  | zero => rfl
  | succ n ih => simp [State.readBytes, ih]
@[simp] theorem State.readBytes_life (n : Nat) (a : Word) : (State.readBytes n a s).2.life = s.life := by
  induction n generalizing a s with
  | zero => rfl
  | succ n ih => simp [State.readBytes, ih]
@[simp] theorem State.readBytes_stepCycles (n : Nat) (a : Word) : (State.readBytes n a s).2.stepCycles = s.stepCycles := by
  induction n generalizing a s with
  | zero => rfl
  | succ n ih => simp [State.readBytes, ih]

/-- Refreshing changes R only. -/
theorem State.refresh_frame (n : Nat) : s.refresh n = s.setR (s.refresh n).cpu.r := by
  induction n generalizing s with
  | zero => rfl
  | succ n ih => unfold State.refresh; rw [ih]; rfl

@[simp] theorem State.refresh_main (n : Nat) : (s.refresh n).cpu.main = s.cpu.main := by rw [State.refresh_frame]; rfl
@[simp] theorem State.refresh_shadow (n : Nat) : (s.refresh n).cpu.shadow = s.cpu.shadow := by rw [State.refresh_frame]; rfl
@[simp] theorem State.refresh_ix (n : Nat) : (s.refresh n).cpu.ix = s.cpu.ix := by rw [State.refresh_frame]; rfl
@[simp] theorem State.refresh_iy (n : Nat) : (s.refresh n).cpu.iy = s.cpu.iy := by rw [State.refresh_frame]; rfl
@[simp] theorem State.refresh_sp (n : Nat) : (s.refresh n).cpu.sp = s.cpu.sp := by rw [State.refresh_frame]; rfl
@[simp] theorem State.refresh_pc (n : Nat) : (s.refresh n).cpu.pc = s.cpu.pc := by rw [State.refresh_frame]; rfl
@[simp] theorem State.refresh_wz (n : Nat) : (s.refresh n).cpu.wz = s.cpu.wz := by rw [State.refresh_frame]; rfl
@[simp] theorem State.refresh_i (n : Nat) : (s.refresh n).cpu.i = s.cpu.i := by rw [State.refresh_frame]; rfl
@[simp] theorem State.refresh_iff1 (n : Nat) : (s.refresh n).cpu.iff1 = s.cpu.iff1 := by rw [State.refresh_frame]; rfl
@[simp] theorem State.refresh_iff2 (n : Nat) : (s.refresh n).cpu.iff2 = s.cpu.iff2 := by rw [State.refresh_frame]; rfl
@[simp] theorem State.refresh_im (n : Nat) : (s.refresh n).cpu.im = s.cpu.im := by rw [State.refresh_frame]; rfl
@[simp] theorem State.refresh_halted (n : Nat) : (s.refresh n).cpu.halted = s.cpu.halted := by rw [State.refresh_frame]; rfl
@[simp] theorem State.refresh_eiInhibit (n : Nat) : (s.refresh n).cpu.eiInhibit = s.cpu.eiInhibit := by rw [State.refresh_frame]; rfl
@[simp] theorem State.refresh_prefixInhibit (n : Nat) : (s.refresh n).cpu.prefixInhibit = s.cpu.prefixInhibit := by rw [State.refresh_frame]; rfl
@[simp] theorem State.refresh_intPending (n : Nat) : (s.refresh n).cpu.intPending = s.cpu.intPending := by rw [State.refresh_frame]; rfl
@[simp] theorem State.refresh_intVec (n : Nat) : (s.refresh n).cpu.intVec = s.cpu.intVec := by rw [State.refresh_frame]; rfl
@[simp] theorem State.refresh_nmiPending (n : Nat) : (s.refresh n).cpu.nmiPending = s.cpu.nmiPending := by rw [State.refresh_frame]; rfl
@[simp] theorem State.refresh_cfg (n : Nat) : (s.refresh n).cfg = s.cfg := by rw [State.refresh_frame]; rfl
@[simp] theorem State.refresh_mem (n : Nat) : (s.refresh n).mem = s.mem := by rw [State.refresh_frame]; rfl
@[simp] theorem State.refresh_io (n : Nat) : (s.refresh n).io = s.io := by rw [State.refresh_frame]; rfl
@[simp] theorem State.refresh_clock (n : Nat) : (s.refresh n).clock = s.clock := by rw [State.refresh_frame]; rfl
@[simp] theorem State.refresh_life (n : Nat) : (s.refresh n).life = s.life := by rw [State.refresh_frame]; rfl
@[simp] theorem State.refresh_draws (n : Nat) : (s.refresh n).draws = s.draws := by rw [State.refresh_frame]; rfl
@[simp] theorem State.refresh_stepCycles (n : Nat) : (s.refresh n).stepCycles = s.stepCycles := by rw [State.refresh_frame]; rfl

/-- What fetching an instruction does: PC past it, R advanced by its M1 cycles, the inhibit bits clear, the devices and draws as
its byte reads left them, and nothing else. -/
theorem State.fetched_frame (i : Instr) :
    s.fetched i = { s with
      cpu := { s.cpu with
        pc := s.cpu.pc + BitVec.ofNat 16 i.length
        r := (s.fetched i).cpu.r
        eiInhibit := false
        prefixInhibit := false }
      io := (s.fetched i).io
      draws := (s.fetched i).draws } := by
  have h : s.fetched i = ((((State.readBytes i.length s.cpu.pc s).2.setPc
      ((State.readBytes i.length s.cpu.pc s).2.cpu.pc + BitVec.ofNat 16 i.length)).refresh
      i.format.m1Fetches).setInhibits false false) := rfl
  rw [State.refresh_frame] at h
  have hx : ∀ t : State, t = ⟨t.cfg, t.cpu, t.mem, t.io, t.clock, t.life, t.draws, t.stepCycles⟩ := fun _ => rfl
  rw [hx (s.fetched i)]
  simp only [h]
  simp [State.setInhibits, State.setR, State.setPc]

/-! The interrupt acceptances change the CPU, and memory and devices through the push and the table read. -/

theorem State.acknowledge_frame : s.acknowledge = { s with cpu := { s.cpu with
    halted := false, r := refreshed s.cpu.r, eiInhibit := false, prefixInhibit := false } } := rfl

theorem State.enterHandler_frame (target : Word) :
    s.enterHandler target = { s with
      cpu := { s.cpu with sp := s.cpu.sp - 1 - 1, pc := target, wz := target }
      mem := (s.push s.cpu.pc).mem
      io := (s.push s.cpu.pc).io } := by
  have hx : ∀ c : Cpu, c = ⟨c.main, c.shadow, c.ix, c.iy, c.sp, c.pc, c.wz, c.i, c.r, c.iff1, c.iff2, c.im, c.halted, c.eiInhibit,
      c.prefixInhibit, c.intPending, c.intVec, c.nmiPending⟩ := fun _ => rfl
  simp only [State.enterHandler, State.setWz, State.setPc]
  rw [hx (s.push s.cpu.pc).cpu]
  simp

/-! The machine step. -/

/-- The end of a machine step where no undefined video behaviour was reached: the devices ticked. -/
theorem State.finishStep_defined (h : s.tickDevices.io.video.undef = false) : s.finishStep = .next s.tickDevices := by
  unfold State.finishStep; rw [h]; rfl

/-- The end of a machine step that reached an undefined video behaviour: a refusal. -/
theorem State.finishStep_undef (h : s.tickDevices.io.video.undef = true) : s.finishStep = .refused .videoUndefined := by
  unfold State.finishStep; rw [h]; rfl

/-- A machine step that answers a next state ran a CPU step, ticked the devices by its cycles, and reached no undefined video
behaviour. -/
theorem step_next {s t : State} (h : step s = .next t) :
    s.life = .running ∧ s.cfg.waitStates = 0 ∧
      ∃ u, cpuStep s = .next u ∧ t = u.tickDevices ∧ t.io.video.undef = false := by
  unfold step at h
  split at h
  · cases h
  · split at h
    · cases h
    · rename_i h1 h2
      refine ⟨Decidable.not_not.1 h1, Decidable.not_not.1 h2, ?_⟩
      split at h
      · rename_i u hu
        cases hv : u.tickDevices.io.video.undef with
        | false => rw [u.finishStep_defined hv] at h; cases h; exact ⟨u, hu, rfl, hv⟩
        | true => rw [u.finishStep_undef hv] at h; cases h
      · cases h
      · cases h

/-- A CPU step that answers a next state is one of the four kinds. -/
theorem cpuStep_next {s u : State} (h : cpuStep s = .next u) :
    (s.stepKind = .nmi ∧ u = s.acceptNmi) ∨ (s.stepKind = .int ∧ s.acceptInt = .next u) ∨
    (s.stepKind = .idle ∧ u = s.haltedIdle) ∨
    (s.stepKind = .instruction ∧ exec s.nextInstr (s.fetched s.nextInstr) = .next u) := by
  unfold cpuStep at h
  split at h
  · exact .inl ⟨‹_›, by cases h; rfl⟩
  · exact .inr (.inl ⟨‹_›, h⟩)
  · exact .inr (.inr (.inl ⟨‹_›, by cases h; rfl⟩))
  · exact .inr (.inr (.inr ⟨‹_›, h⟩))

/-- Ticking the devices changes the devices, the interrupt latch and the executed count only. -/
theorem State.tickDevices_frame : s.tickDevices = { s with
    cpu := { s.cpu with intPending := s.tickDevices.cpu.intPending, intVec := s.tickDevices.cpu.intVec }
    io := s.tickDevices.io
    clock := { s.clock with executed := s.clock.executed + s.stepCycles } } := by
  simp only [State.tickDevices, State.tickTimer, State.tickVideo, State.tickKbd, State.tickPio, State.setVideo, State.setTimer,
    State.requestInterrupt]
  split <;> rfl

end Sys2Proof.Machine
end

