-- ==== Sys2Proof/Laws/Frames.lean ====
section
/-! SUPPORT. The shared operations as equations over the fields of the state, in the terms of the statements: what a bus access
leaves, the stack as a list of writes, a register written and read back, the two bytes of a word, and the flags that
`State.writeFlags` leaves. -/

namespace Sys2Proof.Machine

/-! ### Words and bytes -/

@[simp] theorem hi_append (a b : Byte) : hi (a ++ b) = a := by
  apply BitVec.eq_of_getLsbD_eq
  intro k hk
  rw [hi, BitVec.getLsbD_extractLsb', BitVec.getLsbD_append]
  simp [hk]

@[simp] theorem lo_append (a b : Byte) : lo (a ++ b) = b := by
  apply BitVec.eq_of_getLsbD_eq
  intro k hk
  rw [lo, BitVec.getLsbD_extractLsb', BitVec.getLsbD_append]
  simp [hk]

theorem joinBytes_eq (a b : Byte) : joinBytes a b = a ++ b := rfl

/-- The effective address of the meanings is the statements' (30_encoding.md R102). -/
theorem add_sext16 (w : Word) (d : Byte) : w + sext16 d = displaced w d := by
  have hd : d.signExtend 16 = BitVec.ofInt 16 d.toInt := by
    apply BitVec.eq_of_toInt_eq
    rw [BitVec.toInt_signExtend_of_le (by decide), BitVec.toInt_ofInt]
    have h1 := BitVec.toInt_lt (x := d)
    have h2 := BitVec.le_toInt (x := d)
    simp only [Int.bmod]
    omega
  unfold displaced sext16
  rw [hd, BitVec.ofInt_add]
  congr 1
  simp

theorem State.dispAddr_eq (s : State) (p : IndexReg) (d : Byte) : s.dispAddr p d = displaced (s.index p) d := add_sext16 _ _

/-! ### Registers -/


@[simp] theorem RegSet.putBC_de (m : RegSet) (w : Word) : (m.putBC w).de = m.de := rfl
@[simp] theorem RegSet.putBC_hl (m : RegSet) (w : Word) : (m.putBC w).hl = m.hl := rfl
@[simp] theorem RegSet.putBC_af (m : RegSet) (w : Word) : (m.putBC w).af = m.af := rfl
@[simp] theorem RegSet.putDE_bc (m : RegSet) (w : Word) : (m.putDE w).bc = m.bc := rfl
@[simp] theorem RegSet.putDE_hl (m : RegSet) (w : Word) : (m.putDE w).hl = m.hl := rfl
@[simp] theorem RegSet.putDE_af (m : RegSet) (w : Word) : (m.putDE w).af = m.af := rfl
@[simp] theorem RegSet.putHL_bc (m : RegSet) (w : Word) : (m.putHL w).bc = m.bc := rfl
@[simp] theorem RegSet.putHL_de (m : RegSet) (w : Word) : (m.putHL w).de = m.de := rfl
@[simp] theorem RegSet.putHL_af (m : RegSet) (w : Word) : (m.putHL w).af = m.af := rfl
@[simp] theorem RegSet.putAF_bc (m : RegSet) (w : Word) : (m.putAF w).bc = m.bc := rfl
@[simp] theorem RegSet.putAF_de (m : RegSet) (w : Word) : (m.putAF w).de = m.de := rfl
@[simp] theorem RegSet.putAF_hl (m : RegSet) (w : Word) : (m.putAF w).hl = m.hl := rfl

/-! ### The bus -/

/-- A state is the record of its fields. -/
theorem State.eta (s : State) : s = ⟨s.cfg, s.cpu, s.mem, s.io, s.clock, s.life, s.draws, s.stepCycles⟩ := rfl

/-- A read of memory changes device state and the count of draws only. -/
theorem State.memRead_state (s : State) (a : Word) :
    (s.memRead a).2 = { s with io := (s.memRead a).2.io, draws := (s.memRead a).2.draws } := by
  conv => lhs; rw [State.eta (s.memRead a).2]
  simp

/-- A read of a port changes device state and the count of draws only. -/
theorem State.ioRead_state (s : State) (a : Word) :
    (s.ioRead a).2 = { s with io := (s.ioRead a).2.io, draws := (s.ioRead a).2.draws } := by
  conv => lhs; rw [State.eta (s.ioRead a).2]
  simp

/-- A write of memory changes memory and device state only. -/
theorem State.memWrite_state (s : State) (a : Word) (v : Byte) :
    s.memWrite a v = { s with mem := (s.memWrite a v).mem, io := (s.memWrite a v).io } := by
  conv => lhs; rw [State.eta (s.memWrite a v)]
  simp

/-- A write of a port changes memory (the bank selection) and device state only. -/
theorem State.ioWrite_state (s : State) (a : Word) (v : Byte) :
    s.ioWrite a v = { s with mem := (s.ioWrite a v).mem, io := (s.ioWrite a v).io } := by
  conv => lhs; rw [State.eta (s.ioWrite a v)]
  simp

/-- A read of memory does not look at the CPU. -/
theorem State.memRead_withCpu (s : State) (c : Cpu) (n : Nat) (a : Word) :
    ({ s with cpu := c, stepCycles := n } : State).memRead a =
      ((s.memRead a).1, { (s.memRead a).2 with cpu := c, stepCycles := n }) := by
  unfold State.memRead
  rw [show ({ s with cpu := c, stepCycles := n } : State).memTarget a = s.memTarget a from rfl]
  cases s.memTarget a with
  | device reg => cases reg <;> rfl
  | _ => rfl

/-- A read of a port does not look at the CPU. -/
theorem State.ioRead_withCpu (s : State) (c : Cpu) (n : Nat) (a : Word) :
    ({ s with cpu := c, stepCycles := n } : State).ioRead a =
      ((s.ioRead a).1, { (s.ioRead a).2 with cpu := c, stepCycles := n }) := by
  unfold State.ioRead
  rw [show ({ s with cpu := c, stepCycles := n } : State).ioTarget a = s.ioTarget a from rfl]
  cases s.ioTarget a with
  | device reg => cases reg <;> rfl
  | _ => rfl

/-- A write of memory does not look at the CPU or the count of draws. -/
theorem State.memWrite_withCpu (s : State) (c : Cpu) (d n : Nat) (a : Word) (v : Byte) :
    ({ s with cpu := c, draws := d, stepCycles := n } : State).memWrite a v =
      { s.memWrite a v with cpu := c, draws := d, stepCycles := n } := by
  unfold State.memWrite
  rw [show ({ s with cpu := c, draws := d, stepCycles := n } : State).memTarget a = s.memTarget a from rfl]
  cases s.memTarget a with
  | device reg => cases reg <;> rfl
  | _ => rfl

/-- A write of a port does not look at the CPU or the count of draws. -/
theorem State.ioWrite_withCpu (s : State) (c : Cpu) (d n : Nat) (a : Word) (v : Byte) :
    ({ s with cpu := c, draws := d, stepCycles := n } : State).ioWrite a v =
      { s.ioWrite a v with cpu := c, draws := d, stepCycles := n } := by
  unfold State.ioWrite
  rw [show ({ s with cpu := c, draws := d, stepCycles := n } : State).ioTarget a = s.ioTarget a from rfl]
  cases s.ioTarget a with
  | device reg => cases reg <;> rfl
  | _ => rfl

/-- A list of writes changes memory and device state only. -/
theorem State.writeAll_state (l : List (Word × Byte)) (s : State) :
    State.writeAll l s = { s with mem := (State.writeAll l s).mem, io := (State.writeAll l s).io } := by
  induction l generalizing s with
  | nil => rfl
  | cons p ps ih =>
    show State.writeAll ps (s.memWrite p.1 p.2) = { s with
      mem := (State.writeAll ps (s.memWrite p.1 p.2)).mem, io := (State.writeAll ps (s.memWrite p.1 p.2)).io }
    conv => lhs; rw [ih]
    rw [State.memWrite_state]

/-- A list of writes does not look at the CPU or the count of draws. -/
theorem State.writeAll_withCpu (l : List (Word × Byte)) (s : State) (c : Cpu) (d n : Nat) :
    State.writeAll l { s with cpu := c, draws := d, stepCycles := n } =
      { State.writeAll l s with cpu := c, draws := d, stepCycles := n } := by
  induction l generalizing s with
  | nil => rfl
  | cons p ps ih =>
    show State.writeAll ps (State.memWrite { s with cpu := c, draws := d, stepCycles := n } p.1 p.2) =
      { State.writeAll ps (s.memWrite p.1 p.2) with cpu := c, draws := d, stepCycles := n }
    rw [State.memWrite_withCpu, ih]

/-- A word read is two bytes read, the low one first (00_scope.md R9). -/
theorem State.memRead16_eq (s : State) (a : Word) :
    s.memRead16 a = (((s.memRead a).2.memRead (a + 1)).1 ++ (s.memRead a).1, { s with
      io := ((s.memRead a).2.memRead (a + 1)).2.io, draws := ((s.memRead a).2.memRead (a + 1)).2.draws }) := by
  refine Prod.ext rfl ?_
  show ((s.memRead a).2.memRead (a + 1)).2 = _
  conv => lhs; rw [State.memRead_state]
  simp

/-- A word written is two bytes written, the low one first (00_scope.md R9). -/
theorem State.memWrite16_eq (s : State) (a w : Word) : s.memWrite16 a w = State.writeAll [(a, lo w), (a + 1, hi w)] s := rfl

/-- What `push` does: the high byte at SP - 1, the low byte at SP - 2, and SP there (00_scope.md R9). -/
theorem State.push_eq (s : State) (w : Word) :
    s.push w = { s with
      cpu := { s.cpu with sp := s.cpu.sp - 2 }
      mem := (State.writeAll [(s.cpu.sp - 1, hi w), (s.cpu.sp - 2, lo w)] s).mem
      io := (State.writeAll [(s.cpu.sp - 1, hi w), (s.cpu.sp - 2, lo w)] s).io } := by
  have two : s.cpu.sp - 1 - 1 = s.cpu.sp - 2 := by bv_omega
  have first : ({ s with cpu := { s.cpu with sp := s.cpu.sp - 1 } } : State).memWrite (s.cpu.sp - 1) (hi w) =
      { s.memWrite (s.cpu.sp - 1) (hi w) with cpu := { s.cpu with sp := s.cpu.sp - 1 } } := by
    have e := s.memWrite_withCpu { s.cpu with sp := s.cpu.sp - 1 } s.draws s.stepCycles (s.cpu.sp - 1) (hi w)
    rw [State.memWrite_state s] at e ⊢
    exact e
  unfold State.push State.setSp
  simp only []
  rw [first]
  simp only [two]
  refine Eq.trans ((s.memWrite (s.cpu.sp - 1) (hi w)).memWrite_withCpu { s.cpu with sp := s.cpu.sp - 2 } _ _ (s.cpu.sp - 2) (lo w)) ?_
  show _ = ({ s with
    cpu := { s.cpu with sp := s.cpu.sp - 2 }
    mem := ((s.memWrite (s.cpu.sp - 1) (hi w)).memWrite (s.cpu.sp - 2) (lo w)).mem
    io := ((s.memWrite (s.cpu.sp - 1) (hi w)).memWrite (s.cpu.sp - 2) (lo w)).io } : State)
  conv => lhs; rw [State.memWrite_state (s.memWrite (s.cpu.sp - 1) (hi w))]
  rw [State.memWrite_state s]

/-- What `pop` does: the word at SP, low byte read first, and SP past it (00_scope.md R9). -/
theorem State.pop_eq (s : State) :
    s.pop = (((s.memRead s.cpu.sp).2.memRead (s.cpu.sp + 1)).1 ++ (s.memRead s.cpu.sp).1, { s with
      cpu := { s.cpu with sp := s.cpu.sp + 2 }
      io := ((s.memRead s.cpu.sp).2.memRead (s.cpu.sp + 1)).2.io
      draws := ((s.memRead s.cpu.sp).2.memRead (s.cpu.sp + 1)).2.draws }) := by
  have two : s.cpu.sp + 1 + 1 = s.cpu.sp + 2 := by bv_omega
  have second : ({ (s.memRead s.cpu.sp).2 with cpu := { s.cpu with sp := s.cpu.sp + 1 } } : State).memRead (s.cpu.sp + 1) = _ :=
    (s.memRead s.cpu.sp).2.memRead_withCpu { s.cpu with sp := s.cpu.sp + 1 } (s.memRead s.cpu.sp).2.stepCycles (s.cpu.sp + 1)
  unfold State.pop State.setSp
  simp only [State.memRead_cpu]
  refine Prod.ext ?_ ?_
  · show joinBytes (State.memRead _ _).1 _ = _
    rw [second]
    rfl
  · show ({ (State.memRead _ _).2 with cpu := _ } : State) = _
    rw [second]
    conv => lhs; rw [State.memRead_state (s.memRead s.cpu.sp).2]
    simp
    exact two

/-- A state that differs in the CPU, the devices, the count of draws and the cycles keeps all the rest. -/
theorem State.keepsAll_of_eq {s t : State} {dev : IoDevices}
    (h : t = { s with cpu := t.cpu, io := dev, draws := t.draws, stepCycles := t.stepCycles }) : s.KeepsAll dev t := by
  rw [h]
  exact ⟨rfl, rfl, fun _ => rfl, rfl, rfl, rfl⟩

/-! ### Flags -/

/-- The eight bits of a packed F. -/
theorem flags_packFlags (s z y h x pv n c : Bool) :
    flagS (packFlags s z y h x pv n c) = s ∧ flagZ (packFlags s z y h x pv n c) = z ∧
    flagY (packFlags s z y h x pv n c) = y ∧ flagH (packFlags s z y h x pv n c) = h ∧
    flagX (packFlags s z y h x pv n c) = x ∧ flagPV (packFlags s z y h x pv n c) = pv ∧
    flagN (packFlags s z y h x pv n c) = n ∧ flagC (packFlags s z y h x pv n c) = c := by
  revert s z y h x pv n c
  decide

/-- What `writeFlags` changes: F and the count of draws. -/
theorem State.writeFlags_state (s : State) (f : Byte) :
    s.writeFlags f = { s with
      cpu := { s.cpu with main := { s.cpu.main with f := (s.writeFlags f).cpu.main.f } }
      draws := (s.writeFlags f).draws } := by
  unfold State.writeFlags
  split <;> rfl

/-- The flags that `writeFlags` leaves of a packed F: Y and X only under XY_EXACT (00_scope.md R13). -/
theorem State.writeFlags_flagsAre (s : State) (fs fz fy fh fx fpv fn fc : Bool) :
    (s.writeFlags (packFlags fs fz fy fh fx fpv fn fc)).flagsAre ⟨fs, fz, fh, fpv, fn, fc, fy, fx⟩ := by
  obtain ⟨a1, a2, a3, a4, a5, a6, a7, a8⟩ := flags_packFlags fs fz fy fh fx fpv fn fc
  unfold State.writeFlags
  split
  · exact ⟨a1, a2, a4, a6, a7, a8, fun _ => ⟨a3, a5⟩⟩
  · rename_i hx
    obtain ⟨b1, b2, -, b4, -, b6, b7, b8⟩ := flags_packFlags
      (flagS (packFlags fs fz fy fh fx fpv fn fc)) (flagZ (packFlags fs fz fy fh fx fpv fn fc)) (Config.freeBit s.draws)
      (flagH (packFlags fs fz fy fh fx fpv fn fc)) (Config.freeBit (s.draws + 1)) (flagPV (packFlags fs fz fy fh fx fpv fn fc))
      (flagN (packFlags fs fz fy fh fx fpv fn fc)) (flagC (packFlags fs fz fy fh fx fpv fn fc))
    exact ⟨b1.trans a1, b2.trans a2, b4.trans a4, b6.trans a6, b7.trans a7, b8.trans a8, fun h => absurd h hx⟩

/-- The F that `writeFlags` leaves: its documented flags are those written, and all of it under XY_EXACT (00_scope.md R13). -/
theorem State.writeFlags_fWritten (s : State) (f : Byte) : (s.writeFlags f).fWritten f := by
  unfold State.writeFlags
  split
  · exact ⟨rfl, fun _ => rfl⟩
  · rename_i hx
    refine ⟨?_, fun h => absurd h hx⟩
    have key : ∀ (f : Byte) (y x : Bool), documentedFlags (withYX f y x) = documentedFlags f := by decide +kernel
    exact key f _ _

/-- Flags depend on F and XY_EXACT alone. -/
theorem State.flagsAre_congr {s t : State} {g : Flags} (hf : t.f = s.f) (hc : t.cfg = s.cfg) (h : s.flagsAre g) : t.flagsAre g := by
  unfold State.flagsAre at *
  rwa [hf, hc]

end Sys2Proof.Machine
end

