-- ==== Sys2Proof/Laws/PerInstr.lean ====
section
/-! SUPPORT. Families of lemmas with one lemma per constructor of `Instr`, for proofs by cases over all instructions. -/

namespace Sys2Proof.Laws

/-- The encoding of an instruction has as many bytes as its format says (30_encoding.md R100). -/
def EncodeLength.Statement (i : Instr) : Prop := (encode i).length = i.length

theorem EncodeLength.nop : EncodeLength.Statement (.nop) := rfl
theorem EncodeLength.ldRpNn (rp : RegPair) (nn : Word) : EncodeLength.Statement (.ldRpNn rp nn) := rfl
theorem EncodeLength.ldMemBCA : EncodeLength.Statement (.ldMemBCA) := rfl
theorem EncodeLength.ldMemDEA : EncodeLength.Statement (.ldMemDEA) := rfl
theorem EncodeLength.ldAMemBC : EncodeLength.Statement (.ldAMemBC) := rfl
theorem EncodeLength.ldAMemDE : EncodeLength.Statement (.ldAMemDE) := rfl
theorem EncodeLength.incRp (rp : RegPair) : EncodeLength.Statement (.incRp rp) := rfl
theorem EncodeLength.decRp (rp : RegPair) : EncodeLength.Statement (.decRp rp) := rfl
theorem EncodeLength.incR (r : Reg8) : EncodeLength.Statement (.incR r) := rfl
theorem EncodeLength.incMemHL : EncodeLength.Statement (.incMemHL) := rfl
theorem EncodeLength.decR (r : Reg8) : EncodeLength.Statement (.decR r) := rfl
theorem EncodeLength.decMemHL : EncodeLength.Statement (.decMemHL) := rfl
theorem EncodeLength.ldRN (r : Reg8) (n : Byte) : EncodeLength.Statement (.ldRN r n) := rfl
theorem EncodeLength.ldMemHLN (n : Byte) : EncodeLength.Statement (.ldMemHLN n) := rfl
theorem EncodeLength.rlca : EncodeLength.Statement (.rlca) := rfl
theorem EncodeLength.rrca : EncodeLength.Statement (.rrca) := rfl
theorem EncodeLength.rla : EncodeLength.Statement (.rla) := rfl
theorem EncodeLength.rra : EncodeLength.Statement (.rra) := rfl
theorem EncodeLength.daa : EncodeLength.Statement (.daa) := rfl
theorem EncodeLength.cpl : EncodeLength.Statement (.cpl) := rfl
theorem EncodeLength.scf : EncodeLength.Statement (.scf) := rfl
theorem EncodeLength.ccf : EncodeLength.Statement (.ccf) := rfl
theorem EncodeLength.exAFAF : EncodeLength.Statement (.exAFAF) := rfl
theorem EncodeLength.addHLRp (rp : RegPair) : EncodeLength.Statement (.addHLRp rp) := rfl
theorem EncodeLength.djnz (e : Byte) : EncodeLength.Statement (.djnz e) := rfl
theorem EncodeLength.jr (e : Byte) : EncodeLength.Statement (.jr e) := rfl
theorem EncodeLength.jrCc (cc : Cond) (e : Byte) : EncodeLength.Statement (.jrCc cc e) := rfl
theorem EncodeLength.ldMemNnHL (nn : Word) : EncodeLength.Statement (.ldMemNnHL nn) := rfl
theorem EncodeLength.ldHLMemNn (nn : Word) : EncodeLength.Statement (.ldHLMemNn nn) := rfl
theorem EncodeLength.ldMemNnA (nn : Word) : EncodeLength.Statement (.ldMemNnA nn) := rfl
theorem EncodeLength.ldAMemNn (nn : Word) : EncodeLength.Statement (.ldAMemNn nn) := rfl
theorem EncodeLength.ldRR (dst src : Reg8) : EncodeLength.Statement (.ldRR dst src) := rfl
theorem EncodeLength.ldRMemHL (r : Reg8) : EncodeLength.Statement (.ldRMemHL r) := rfl
theorem EncodeLength.ldMemHLR (r : Reg8) : EncodeLength.Statement (.ldMemHLR r) := rfl
theorem EncodeLength.halt : EncodeLength.Statement (.halt) := rfl
theorem EncodeLength.addAR (r : Reg8) : EncodeLength.Statement (.addAR r) := rfl
theorem EncodeLength.addAMemHL : EncodeLength.Statement (.addAMemHL) := rfl
theorem EncodeLength.addAN (n : Byte) : EncodeLength.Statement (.addAN n) := rfl
theorem EncodeLength.adcAR (r : Reg8) : EncodeLength.Statement (.adcAR r) := rfl
theorem EncodeLength.adcAMemHL : EncodeLength.Statement (.adcAMemHL) := rfl
theorem EncodeLength.adcAN (n : Byte) : EncodeLength.Statement (.adcAN n) := rfl
theorem EncodeLength.subR (r : Reg8) : EncodeLength.Statement (.subR r) := rfl
theorem EncodeLength.subMemHL : EncodeLength.Statement (.subMemHL) := rfl
theorem EncodeLength.subN (n : Byte) : EncodeLength.Statement (.subN n) := rfl
theorem EncodeLength.sbcAR (r : Reg8) : EncodeLength.Statement (.sbcAR r) := rfl
theorem EncodeLength.sbcAMemHL : EncodeLength.Statement (.sbcAMemHL) := rfl
theorem EncodeLength.sbcAN (n : Byte) : EncodeLength.Statement (.sbcAN n) := rfl
theorem EncodeLength.andR (r : Reg8) : EncodeLength.Statement (.andR r) := rfl
theorem EncodeLength.andMemHL : EncodeLength.Statement (.andMemHL) := rfl
theorem EncodeLength.andN (n : Byte) : EncodeLength.Statement (.andN n) := rfl
theorem EncodeLength.xorR (r : Reg8) : EncodeLength.Statement (.xorR r) := rfl
theorem EncodeLength.xorMemHL : EncodeLength.Statement (.xorMemHL) := rfl
theorem EncodeLength.xorN (n : Byte) : EncodeLength.Statement (.xorN n) := rfl
theorem EncodeLength.orR (r : Reg8) : EncodeLength.Statement (.orR r) := rfl
theorem EncodeLength.orMemHL : EncodeLength.Statement (.orMemHL) := rfl
theorem EncodeLength.orN (n : Byte) : EncodeLength.Statement (.orN n) := rfl
theorem EncodeLength.cpR (r : Reg8) : EncodeLength.Statement (.cpR r) := rfl
theorem EncodeLength.cpMemHL : EncodeLength.Statement (.cpMemHL) := rfl
theorem EncodeLength.cpN (n : Byte) : EncodeLength.Statement (.cpN n) := rfl
theorem EncodeLength.retCc (cc : Cond) : EncodeLength.Statement (.retCc cc) := rfl
theorem EncodeLength.popRp2 (rp : StackPair) : EncodeLength.Statement (.popRp2 rp) := rfl
theorem EncodeLength.jpCc (cc : Cond) (nn : Word) : EncodeLength.Statement (.jpCc cc nn) := rfl
theorem EncodeLength.jp (nn : Word) : EncodeLength.Statement (.jp nn) := rfl
theorem EncodeLength.callCc (cc : Cond) (nn : Word) : EncodeLength.Statement (.callCc cc nn) := rfl
theorem EncodeLength.pushRp2 (rp : StackPair) : EncodeLength.Statement (.pushRp2 rp) := rfl
theorem EncodeLength.rst (y : BitVec 3) : EncodeLength.Statement (.rst y) := rfl
theorem EncodeLength.ret : EncodeLength.Statement (.ret) := rfl
theorem EncodeLength.call (nn : Word) : EncodeLength.Statement (.call nn) := rfl
theorem EncodeLength.outNA (n : Byte) : EncodeLength.Statement (.outNA n) := rfl
theorem EncodeLength.exx : EncodeLength.Statement (.exx) := rfl
theorem EncodeLength.inAN (n : Byte) : EncodeLength.Statement (.inAN n) := rfl
theorem EncodeLength.exMemSPHL : EncodeLength.Statement (.exMemSPHL) := rfl
theorem EncodeLength.jpHL : EncodeLength.Statement (.jpHL) := rfl
theorem EncodeLength.exDEHL : EncodeLength.Statement (.exDEHL) := rfl
theorem EncodeLength.di : EncodeLength.Statement (.di) := rfl
theorem EncodeLength.ldSPHL : EncodeLength.Statement (.ldSPHL) := rfl
theorem EncodeLength.ei : EncodeLength.Statement (.ei) := rfl
theorem EncodeLength.rlcR (r : Reg8) : EncodeLength.Statement (.rlcR r) := rfl
theorem EncodeLength.rlcMemHL : EncodeLength.Statement (.rlcMemHL) := rfl
theorem EncodeLength.rrcR (r : Reg8) : EncodeLength.Statement (.rrcR r) := rfl
theorem EncodeLength.rrcMemHL : EncodeLength.Statement (.rrcMemHL) := rfl
theorem EncodeLength.rlR (r : Reg8) : EncodeLength.Statement (.rlR r) := rfl
theorem EncodeLength.rlMemHL : EncodeLength.Statement (.rlMemHL) := rfl
theorem EncodeLength.rrR (r : Reg8) : EncodeLength.Statement (.rrR r) := rfl
theorem EncodeLength.rrMemHL : EncodeLength.Statement (.rrMemHL) := rfl
theorem EncodeLength.slaR (r : Reg8) : EncodeLength.Statement (.slaR r) := rfl
theorem EncodeLength.slaMemHL : EncodeLength.Statement (.slaMemHL) := rfl
theorem EncodeLength.sraR (r : Reg8) : EncodeLength.Statement (.sraR r) := rfl
theorem EncodeLength.sraMemHL : EncodeLength.Statement (.sraMemHL) := rfl
theorem EncodeLength.sllR (r : Reg8) : EncodeLength.Statement (.sllR r) := rfl
theorem EncodeLength.sllMemHL : EncodeLength.Statement (.sllMemHL) := rfl
theorem EncodeLength.srlR (r : Reg8) : EncodeLength.Statement (.srlR r) := rfl
theorem EncodeLength.srlMemHL : EncodeLength.Statement (.srlMemHL) := rfl
theorem EncodeLength.bitR (b : BitVec 3) (r : Reg8) : EncodeLength.Statement (.bitR b r) := rfl
theorem EncodeLength.bitMemHL (b : BitVec 3) : EncodeLength.Statement (.bitMemHL b) := rfl
theorem EncodeLength.resR (b : BitVec 3) (r : Reg8) : EncodeLength.Statement (.resR b r) := rfl
theorem EncodeLength.resMemHL (b : BitVec 3) : EncodeLength.Statement (.resMemHL b) := rfl
theorem EncodeLength.setR (b : BitVec 3) (r : Reg8) : EncodeLength.Statement (.setR b r) := rfl
theorem EncodeLength.setMemHL (b : BitVec 3) : EncodeLength.Statement (.setMemHL b) := rfl
theorem EncodeLength.noni (op : Byte) : EncodeLength.Statement (.noni op) := rfl
theorem EncodeLength.inRC (r : Reg8) : EncodeLength.Statement (.inRC r) := rfl
theorem EncodeLength.inC : EncodeLength.Statement (.inC) := rfl
theorem EncodeLength.outCR (r : Reg8) : EncodeLength.Statement (.outCR r) := rfl
theorem EncodeLength.outC0 : EncodeLength.Statement (.outC0) := rfl
theorem EncodeLength.sbcHLRp (rp : RegPair) : EncodeLength.Statement (.sbcHLRp rp) := rfl
theorem EncodeLength.adcHLRp (rp : RegPair) : EncodeLength.Statement (.adcHLRp rp) := rfl
theorem EncodeLength.ldMemNnRp (nn : Word) (rp : RegPair) : EncodeLength.Statement (.ldMemNnRp nn rp) := rfl
theorem EncodeLength.ldRpMemNn (rp : RegPair) (nn : Word) : EncodeLength.Statement (.ldRpMemNn rp nn) := rfl
theorem EncodeLength.neg (y : BitVec 3) : EncodeLength.Statement (.neg y) := rfl
theorem EncodeLength.retn (y : BitVec 3) : EncodeLength.Statement (.retn y) := rfl
theorem EncodeLength.reti : EncodeLength.Statement (.reti) := rfl
theorem EncodeLength.im (y : BitVec 3) : EncodeLength.Statement (.im y) := rfl
theorem EncodeLength.ldIA : EncodeLength.Statement (.ldIA) := rfl
theorem EncodeLength.ldRA : EncodeLength.Statement (.ldRA) := rfl
theorem EncodeLength.ldAI : EncodeLength.Statement (.ldAI) := rfl
theorem EncodeLength.ldAR : EncodeLength.Statement (.ldAR) := rfl
theorem EncodeLength.rrd : EncodeLength.Statement (.rrd) := rfl
theorem EncodeLength.rld : EncodeLength.Statement (.rld) := rfl
theorem EncodeLength.ldi : EncodeLength.Statement (.ldi) := rfl
theorem EncodeLength.cpi : EncodeLength.Statement (.cpi) := rfl
theorem EncodeLength.ini : EncodeLength.Statement (.ini) := rfl
theorem EncodeLength.outi : EncodeLength.Statement (.outi) := rfl
theorem EncodeLength.ldd : EncodeLength.Statement (.ldd) := rfl
theorem EncodeLength.cpd : EncodeLength.Statement (.cpd) := rfl
theorem EncodeLength.ind : EncodeLength.Statement (.ind) := rfl
theorem EncodeLength.outd : EncodeLength.Statement (.outd) := rfl
theorem EncodeLength.ldir : EncodeLength.Statement (.ldir) := rfl
theorem EncodeLength.cpir : EncodeLength.Statement (.cpir) := rfl
theorem EncodeLength.inir : EncodeLength.Statement (.inir) := rfl
theorem EncodeLength.otir : EncodeLength.Statement (.otir) := rfl
theorem EncodeLength.lddr : EncodeLength.Statement (.lddr) := rfl
theorem EncodeLength.cpdr : EncodeLength.Statement (.cpdr) := rfl
theorem EncodeLength.indr : EncodeLength.Statement (.indr) := rfl
theorem EncodeLength.otdr : EncodeLength.Statement (.otdr) := rfl
theorem EncodeLength.prefixIgnored (p : IndexReg) : EncodeLength.Statement (.prefixIgnored p) := rfl
theorem EncodeLength.addXYRp (p : IndexReg) (rp : XYPair) : EncodeLength.Statement (.addXYRp p rp) := rfl
theorem EncodeLength.ldXYNn (p : IndexReg) (nn : Word) : EncodeLength.Statement (.ldXYNn p nn) := rfl
theorem EncodeLength.ldMemNnXY (nn : Word) (p : IndexReg) : EncodeLength.Statement (.ldMemNnXY nn p) := rfl
theorem EncodeLength.incXY (p : IndexReg) : EncodeLength.Statement (.incXY p) := rfl
theorem EncodeLength.incXYH (p : IndexReg) : EncodeLength.Statement (.incXYH p) := rfl
theorem EncodeLength.decXYH (p : IndexReg) : EncodeLength.Statement (.decXYH p) := rfl
theorem EncodeLength.ldXYHN (p : IndexReg) (n : Byte) : EncodeLength.Statement (.ldXYHN p n) := rfl
theorem EncodeLength.ldXYMemNn (p : IndexReg) (nn : Word) : EncodeLength.Statement (.ldXYMemNn p nn) := rfl
theorem EncodeLength.decXY (p : IndexReg) : EncodeLength.Statement (.decXY p) := rfl
theorem EncodeLength.incXYL (p : IndexReg) : EncodeLength.Statement (.incXYL p) := rfl
theorem EncodeLength.decXYL (p : IndexReg) : EncodeLength.Statement (.decXYL p) := rfl
theorem EncodeLength.ldXYLN (p : IndexReg) (n : Byte) : EncodeLength.Statement (.ldXYLN p n) := rfl
theorem EncodeLength.incMemXYd (p : IndexReg) (d : Byte) : EncodeLength.Statement (.incMemXYd p d) := rfl
theorem EncodeLength.decMemXYd (p : IndexReg) (d : Byte) : EncodeLength.Statement (.decMemXYd p d) := rfl
theorem EncodeLength.ldMemXYdN (p : IndexReg) (d : Byte) (n : Byte) : EncodeLength.Statement (.ldMemXYdN p d n) := rfl
theorem EncodeLength.ldRXYH (r : XYReg8) (p : IndexReg) : EncodeLength.Statement (.ldRXYH r p) := rfl
theorem EncodeLength.ldRXYL (r : XYReg8) (p : IndexReg) : EncodeLength.Statement (.ldRXYL r p) := rfl
theorem EncodeLength.ldXYHR (p : IndexReg) (r : Reg8) : EncodeLength.Statement (.ldXYHR p r) := rfl
theorem EncodeLength.ldXYLR (p : IndexReg) (r : Reg8) : EncodeLength.Statement (.ldXYLR p r) := rfl
theorem EncodeLength.ldRMemXYd (r : Reg8) (p : IndexReg) (d : Byte) : EncodeLength.Statement (.ldRMemXYd r p d) := rfl
theorem EncodeLength.ldMemXYdR (p : IndexReg) (d : Byte) (r : Reg8) : EncodeLength.Statement (.ldMemXYdR p d r) := rfl
theorem EncodeLength.addAXYH (p : IndexReg) : EncodeLength.Statement (.addAXYH p) := rfl
theorem EncodeLength.addAXYL (p : IndexReg) : EncodeLength.Statement (.addAXYL p) := rfl
theorem EncodeLength.addAMemXYd (p : IndexReg) (d : Byte) : EncodeLength.Statement (.addAMemXYd p d) := rfl
theorem EncodeLength.adcAXYH (p : IndexReg) : EncodeLength.Statement (.adcAXYH p) := rfl
theorem EncodeLength.adcAXYL (p : IndexReg) : EncodeLength.Statement (.adcAXYL p) := rfl
theorem EncodeLength.adcAMemXYd (p : IndexReg) (d : Byte) : EncodeLength.Statement (.adcAMemXYd p d) := rfl
theorem EncodeLength.subXYH (p : IndexReg) : EncodeLength.Statement (.subXYH p) := rfl
theorem EncodeLength.subXYL (p : IndexReg) : EncodeLength.Statement (.subXYL p) := rfl
theorem EncodeLength.subMemXYd (p : IndexReg) (d : Byte) : EncodeLength.Statement (.subMemXYd p d) := rfl
theorem EncodeLength.sbcAXYH (p : IndexReg) : EncodeLength.Statement (.sbcAXYH p) := rfl
theorem EncodeLength.sbcAXYL (p : IndexReg) : EncodeLength.Statement (.sbcAXYL p) := rfl
theorem EncodeLength.sbcAMemXYd (p : IndexReg) (d : Byte) : EncodeLength.Statement (.sbcAMemXYd p d) := rfl
theorem EncodeLength.andXYH (p : IndexReg) : EncodeLength.Statement (.andXYH p) := rfl
theorem EncodeLength.andXYL (p : IndexReg) : EncodeLength.Statement (.andXYL p) := rfl
theorem EncodeLength.andMemXYd (p : IndexReg) (d : Byte) : EncodeLength.Statement (.andMemXYd p d) := rfl
theorem EncodeLength.xorXYH (p : IndexReg) : EncodeLength.Statement (.xorXYH p) := rfl
theorem EncodeLength.xorXYL (p : IndexReg) : EncodeLength.Statement (.xorXYL p) := rfl
theorem EncodeLength.xorMemXYd (p : IndexReg) (d : Byte) : EncodeLength.Statement (.xorMemXYd p d) := rfl
theorem EncodeLength.orXYH (p : IndexReg) : EncodeLength.Statement (.orXYH p) := rfl
theorem EncodeLength.orXYL (p : IndexReg) : EncodeLength.Statement (.orXYL p) := rfl
theorem EncodeLength.orMemXYd (p : IndexReg) (d : Byte) : EncodeLength.Statement (.orMemXYd p d) := rfl
theorem EncodeLength.cpXYH (p : IndexReg) : EncodeLength.Statement (.cpXYH p) := rfl
theorem EncodeLength.cpXYL (p : IndexReg) : EncodeLength.Statement (.cpXYL p) := rfl
theorem EncodeLength.cpMemXYd (p : IndexReg) (d : Byte) : EncodeLength.Statement (.cpMemXYd p d) := rfl
theorem EncodeLength.popXY (p : IndexReg) : EncodeLength.Statement (.popXY p) := rfl
theorem EncodeLength.exMemSPXY (p : IndexReg) : EncodeLength.Statement (.exMemSPXY p) := rfl
theorem EncodeLength.pushXY (p : IndexReg) : EncodeLength.Statement (.pushXY p) := rfl
theorem EncodeLength.jpXY (p : IndexReg) : EncodeLength.Statement (.jpXY p) := rfl
theorem EncodeLength.ldSPXY (p : IndexReg) : EncodeLength.Statement (.ldSPXY p) := rfl
theorem EncodeLength.rlcMemXYd (p : IndexReg) (d : Byte) : EncodeLength.Statement (.rlcMemXYd p d) := rfl
theorem EncodeLength.rlcMemXYdR (p : IndexReg) (d : Byte) (r : Reg8) : EncodeLength.Statement (.rlcMemXYdR p d r) := rfl
theorem EncodeLength.rrcMemXYd (p : IndexReg) (d : Byte) : EncodeLength.Statement (.rrcMemXYd p d) := rfl
theorem EncodeLength.rrcMemXYdR (p : IndexReg) (d : Byte) (r : Reg8) : EncodeLength.Statement (.rrcMemXYdR p d r) := rfl
theorem EncodeLength.rlMemXYd (p : IndexReg) (d : Byte) : EncodeLength.Statement (.rlMemXYd p d) := rfl
theorem EncodeLength.rlMemXYdR (p : IndexReg) (d : Byte) (r : Reg8) : EncodeLength.Statement (.rlMemXYdR p d r) := rfl
theorem EncodeLength.rrMemXYd (p : IndexReg) (d : Byte) : EncodeLength.Statement (.rrMemXYd p d) := rfl
theorem EncodeLength.rrMemXYdR (p : IndexReg) (d : Byte) (r : Reg8) : EncodeLength.Statement (.rrMemXYdR p d r) := rfl
theorem EncodeLength.slaMemXYd (p : IndexReg) (d : Byte) : EncodeLength.Statement (.slaMemXYd p d) := rfl
theorem EncodeLength.slaMemXYdR (p : IndexReg) (d : Byte) (r : Reg8) : EncodeLength.Statement (.slaMemXYdR p d r) := rfl
theorem EncodeLength.sraMemXYd (p : IndexReg) (d : Byte) : EncodeLength.Statement (.sraMemXYd p d) := rfl
theorem EncodeLength.sraMemXYdR (p : IndexReg) (d : Byte) (r : Reg8) : EncodeLength.Statement (.sraMemXYdR p d r) := rfl
theorem EncodeLength.sllMemXYd (p : IndexReg) (d : Byte) : EncodeLength.Statement (.sllMemXYd p d) := rfl
theorem EncodeLength.sllMemXYdR (p : IndexReg) (d : Byte) (r : Reg8) : EncodeLength.Statement (.sllMemXYdR p d r) := rfl
theorem EncodeLength.srlMemXYd (p : IndexReg) (d : Byte) : EncodeLength.Statement (.srlMemXYd p d) := rfl
theorem EncodeLength.srlMemXYdR (p : IndexReg) (d : Byte) (r : Reg8) : EncodeLength.Statement (.srlMemXYdR p d r) := rfl
theorem EncodeLength.bitMemXYd (b : BitVec 3) (p : IndexReg) (d : Byte) (z : BitVec 3) : EncodeLength.Statement (.bitMemXYd b p d z) := rfl
theorem EncodeLength.resMemXYd (b : BitVec 3) (p : IndexReg) (d : Byte) : EncodeLength.Statement (.resMemXYd b p d) := rfl
theorem EncodeLength.resMemXYdR (b : BitVec 3) (p : IndexReg) (d : Byte) (r : Reg8) : EncodeLength.Statement (.resMemXYdR b p d r) := rfl
theorem EncodeLength.setMemXYd (b : BitVec 3) (p : IndexReg) (d : Byte) : EncodeLength.Statement (.setMemXYd b p d) := rfl
theorem EncodeLength.setMemXYdR (b : BitVec 3) (p : IndexReg) (d : Byte) (r : Reg8) : EncodeLength.Statement (.setMemXYdR b p d r) := rfl

end Sys2Proof.Laws
end

