-- ==== Sys2Proof/Tests/Slice0.lean ====
section
/-! SUPPORT. Tests on fixed values, and for each statement with hypotheses a state and operands that meet them. Where no other
source is named, the expected values of an instruction are those of the vector of spec/95_test_vectors.md that stands beside
it. -/

open Sys2Proof Sys2Proof.Machine

-- One test is checked after another: side by side they take a thread each, more than the memory limit has stacks for.
set_option Elab.async false

/-! ### Well-formedness: what each check refuses -/

theorem test_wf_jr_condition : (Instr.jrCc .po 0x05).wf = false := rfl
theorem test_wf_retn_field : (Instr.retn 1).wf = false := rfl
theorem test_wf_noni_opcode : (Instr.noni 0x44).wf = false := rfl
theorem test_wf_ldXYHR_register : (Instr.ldXYHR .ix .h).wf = false := rfl
theorem test_wf_ldXYLR_register : (Instr.ldXYLR .iy .l).wf = false := rfl

/-! ### Decoding -/

/-- The unprefixed map: one word of each instruction, its bits written from its row of the opcode table. -/
theorem test_decode_main1 :
    decode [0x00] = .ok .nop ∧
    decode [0x31, 0x34, 0x12] = .ok (.ldRpNn .sp 0x1234) ∧
    decode [0x02] = .ok .ldMemBCA ∧
    decode [0x12] = .ok .ldMemDEA ∧
    decode [0x0A] = .ok .ldAMemBC ∧
    decode [0x1A] = .ok .ldAMemDE ∧
    decode [0x03] = .ok (.incRp .bc) ∧
    decode [0x1B] = .ok (.decRp .de) ∧
    decode [0x3C] = .ok (.incR .a) ∧
    decode [0x34] = .ok .incMemHL ∧
    decode [0x05] = .ok (.decR .b) ∧
    decode [0x35] = .ok .decMemHL ∧
    decode [0x0E, 0x7F] = .ok (.ldRN .c 0x7F) ∧
    decode [0x36, 0x80] = .ok (.ldMemHLN 0x80) ∧
    decode [0x07] = .ok .rlca ∧
    decode [0x0F] = .ok .rrca ∧
    decode [0x17] = .ok .rla ∧
    decode [0x1F] = .ok .rra ∧
    decode [0x27] = .ok .daa ∧
    decode [0x2F] = .ok .cpl ∧
    decode [0x37] = .ok .scf ∧
    decode [0x3F] = .ok .ccf ∧
    decode [0x08] = .ok .exAFAF ∧
    decode [0x29] = .ok (.addHLRp .hl) ∧
    decode [0x10, 0x7F] = .ok (.djnz 0x7F) ∧
    decode [0x18, 0x80] = .ok (.jr 0x80) :=
  ⟨rfl, rfl, rfl, rfl, rfl, rfl, rfl, rfl, rfl, rfl, rfl, rfl, rfl, rfl, rfl, rfl, rfl, rfl, rfl, rfl, rfl, rfl, rfl, rfl, rfl, rfl⟩

/-- The unprefixed map: one word of each instruction, its bits written from its row of the opcode table. -/
theorem test_decode_main2 :
    decode [0x38, 0xFE] = .ok (.jrCc .c 0xFE) ∧
    decode [0x22, 0x01, 0x40] = .ok (.ldMemNnHL 0x4001) ∧
    decode [0x2A, 0xFE, 0xFF] = .ok (.ldHLMemNn 0xFFFE) ∧
    decode [0x32, 0x00, 0x80] = .ok (.ldMemNnA 0x8000) ∧
    decode [0x3A, 0x34, 0x12] = .ok (.ldAMemNn 0x1234) ∧
    decode [0x54] = .ok (.ldRR .d .h) ∧
    decode [0x56] = .ok (.ldRMemHL .d) ∧
    decode [0x73] = .ok (.ldMemHLR .e) ∧
    decode [0x76] = .ok .halt ∧
    decode [0x84] = .ok (.addAR .h) ∧
    decode [0x86] = .ok .addAMemHL ∧
    decode [0xC6, 0xFE] = .ok (.addAN 0xFE) ∧
    decode [0x8D] = .ok (.adcAR .l) ∧
    decode [0x8E] = .ok .adcAMemHL ∧
    decode [0xCE, 0x05] = .ok (.adcAN 0x05) ∧
    decode [0x97] = .ok (.subR .a) ∧
    decode [0x96] = .ok .subMemHL ∧
    decode [0xD6, 0x7F] = .ok (.subN 0x7F) ∧
    decode [0x98] = .ok (.sbcAR .b) ∧
    decode [0x9E] = .ok .sbcAMemHL ∧
    decode [0xDE, 0x80] = .ok (.sbcAN 0x80) ∧
    decode [0xA1] = .ok (.andR .c) ∧
    decode [0xA6] = .ok .andMemHL ∧
    decode [0xE6, 0xFE] = .ok (.andN 0xFE) ∧
    decode [0xAA] = .ok (.xorR .d) ∧
    decode [0xAE] = .ok .xorMemHL :=
  ⟨rfl, rfl, rfl, rfl, rfl, rfl, rfl, rfl, rfl, rfl, rfl, rfl, rfl, rfl, rfl, rfl, rfl, rfl, rfl, rfl, rfl, rfl, rfl, rfl, rfl, rfl⟩

/-- The unprefixed map: one word of each instruction, its bits written from its row of the opcode table. -/
theorem test_decode_main3 :
    decode [0xEE, 0x05] = .ok (.xorN 0x05) ∧
    decode [0xB3] = .ok (.orR .e) ∧
    decode [0xB6] = .ok .orMemHL ∧
    decode [0xF6, 0x7F] = .ok (.orN 0x7F) ∧
    decode [0xBC] = .ok (.cpR .h) ∧
    decode [0xBE] = .ok .cpMemHL ∧
    decode [0xFE, 0x80] = .ok (.cpN 0x80) ∧
    decode [0xC0] = .ok (.retCc .nz) ∧
    decode [0xF1] = .ok (.popRp2 .af) ∧
    decode [0xCA, 0x01, 0x40] = .ok (.jpCc .z 0x4001) ∧
    decode [0xC3, 0xFE, 0xFF] = .ok (.jp 0xFFFE) ∧
    decode [0xD4, 0x00, 0x80] = .ok (.callCc .nc 0x8000) ∧
    decode [0xC5] = .ok (.pushRp2 .bc) ∧
    decode [0xEF] = .ok (.rst 5) ∧
    decode [0xC9] = .ok .ret ∧
    decode [0xCD, 0x34, 0x12] = .ok (.call 0x1234) ∧
    decode [0xD3, 0xFE] = .ok (.outNA 0xFE) ∧
    decode [0xD9] = .ok .exx ∧
    decode [0xDB, 0x05] = .ok (.inAN 0x05) ∧
    decode [0xE3] = .ok .exMemSPHL ∧
    decode [0xE9] = .ok .jpHL ∧
    decode [0xEB] = .ok .exDEHL ∧
    decode [0xF3] = .ok .di ∧
    decode [0xF9] = .ok .ldSPHL ∧
    decode [0xFB] = .ok .ei :=
  ⟨rfl, rfl, rfl, rfl, rfl, rfl, rfl, rfl, rfl, rfl, rfl, rfl, rfl, rfl, rfl, rfl, rfl, rfl, rfl, rfl, rfl, rfl, rfl, rfl, rfl⟩

/-- The CB map: one word of each instruction, its bits written from its row of the opcode table. -/
theorem test_decode_cb :
    decode [0xCB, 0x05] = .ok (.rlcR .l) ∧
    decode [0xCB, 0x06] = .ok .rlcMemHL ∧
    decode [0xCB, 0x0F] = .ok (.rrcR .a) ∧
    decode [0xCB, 0x0E] = .ok .rrcMemHL ∧
    decode [0xCB, 0x10] = .ok (.rlR .b) ∧
    decode [0xCB, 0x16] = .ok .rlMemHL ∧
    decode [0xCB, 0x19] = .ok (.rrR .c) ∧
    decode [0xCB, 0x1E] = .ok .rrMemHL ∧
    decode [0xCB, 0x22] = .ok (.slaR .d) ∧
    decode [0xCB, 0x26] = .ok .slaMemHL ∧
    decode [0xCB, 0x2B] = .ok (.sraR .e) ∧
    decode [0xCB, 0x2E] = .ok .sraMemHL ∧
    decode [0xCB, 0x34] = .ok (.sllR .h) ∧
    decode [0xCB, 0x36] = .ok .sllMemHL ∧
    decode [0xCB, 0x3D] = .ok (.srlR .l) ∧
    decode [0xCB, 0x3E] = .ok .srlMemHL ∧
    decode [0xCB, 0x6F] = .ok (.bitR 5 .a) ∧
    decode [0xCB, 0x7E] = .ok (.bitMemHL 7) ∧
    decode [0xCB, 0x80] = .ok (.resR 0 .b) ∧
    decode [0xCB, 0x9E] = .ok (.resMemHL 3) ∧
    decode [0xCB, 0xF1] = .ok (.setR 6 .c) ∧
    decode [0xCB, 0xEE] = .ok (.setMemHL 5) :=
  ⟨rfl, rfl, rfl, rfl, rfl, rfl, rfl, rfl, rfl, rfl, rfl, rfl, rfl, rfl, rfl, rfl, rfl, rfl, rfl, rfl, rfl, rfl⟩

/-- The ED map: one word of each instruction, its bits written from its row of the opcode table. -/
theorem test_decode_ed1 :
    decode [0xED, 0xFF] = .ok (.noni 0xFF) ∧
    decode [0xED, 0x50] = .ok (.inRC .d) ∧
    decode [0xED, 0x70] = .ok .inC ∧
    decode [0xED, 0x59] = .ok (.outCR .e) ∧
    decode [0xED, 0x71] = .ok .outC0 ∧
    decode [0xED, 0x72] = .ok (.sbcHLRp .sp) ∧
    decode [0xED, 0x4A] = .ok (.adcHLRp .bc) ∧
    decode [0xED, 0x53, 0x01, 0x40] = .ok (.ldMemNnRp 0x4001 .de) ∧
    decode [0xED, 0x6B, 0xFE, 0xFF] = .ok (.ldRpMemNn .hl 0xFFFE) ∧
    decode [0xED, 0x7C] = .ok (.neg 7) ∧
    decode [0xED, 0x45] = .ok (.retn 0) ∧
    decode [0xED, 0x4D] = .ok .reti ∧
    decode [0xED, 0x5E] = .ok (.im 3) ∧
    decode [0xED, 0x47] = .ok .ldIA ∧
    decode [0xED, 0x4F] = .ok .ldRA ∧
    decode [0xED, 0x57] = .ok .ldAI ∧
    decode [0xED, 0x5F] = .ok .ldAR ∧
    decode [0xED, 0x67] = .ok .rrd ∧
    decode [0xED, 0x6F] = .ok .rld ∧
    decode [0xED, 0xA0] = .ok .ldi ∧
    decode [0xED, 0xA1] = .ok .cpi ∧
    decode [0xED, 0xA2] = .ok .ini ∧
    decode [0xED, 0xA3] = .ok .outi ∧
    decode [0xED, 0xA8] = .ok .ldd ∧
    decode [0xED, 0xA9] = .ok .cpd ∧
    decode [0xED, 0xAA] = .ok .ind :=
  ⟨rfl, rfl, rfl, rfl, rfl, rfl, rfl, rfl, rfl, rfl, rfl, rfl, rfl, rfl, rfl, rfl, rfl, rfl, rfl, rfl, rfl, rfl, rfl, rfl, rfl, rfl⟩

/-- The ED map: one word of each instruction, its bits written from its row of the opcode table. -/
theorem test_decode_ed2 :
    decode [0xED, 0xAB] = .ok .outd ∧
    decode [0xED, 0xB0] = .ok .ldir ∧
    decode [0xED, 0xB1] = .ok .cpir ∧
    decode [0xED, 0xB2] = .ok .inir ∧
    decode [0xED, 0xB3] = .ok .otir ∧
    decode [0xED, 0xB8] = .ok .lddr ∧
    decode [0xED, 0xB9] = .ok .cpdr ∧
    decode [0xED, 0xBA] = .ok .indr ∧
    decode [0xED, 0xBB] = .ok .otdr :=
  ⟨rfl, rfl, rfl, rfl, rfl, rfl, rfl, rfl, rfl⟩

/-- The index prefixes: one word of each instruction, its bits written from its row of the opcode table. -/
theorem test_decode_xy1 :
    decode [0xDD, 0x00] = .ok (.prefixIgnored .ix) ∧
    decode [0xFD, 0x39] = .ok (.addXYRp .iy .sp) ∧
    decode [0xDD, 0x21, 0x00, 0x80] = .ok (.ldXYNn .ix 0x8000) ∧
    decode [0xFD, 0x22, 0x34, 0x12] = .ok (.ldMemNnXY 0x1234 .iy) ∧
    decode [0xDD, 0x23] = .ok (.incXY .ix) ∧
    decode [0xFD, 0x24] = .ok (.incXYH .iy) ∧
    decode [0xDD, 0x25] = .ok (.decXYH .ix) ∧
    decode [0xFD, 0x26, 0x7F] = .ok (.ldXYHN .iy 0x7F) ∧
    decode [0xDD, 0x2A, 0x01, 0x40] = .ok (.ldXYMemNn .ix 0x4001) ∧
    decode [0xFD, 0x2B] = .ok (.decXY .iy) ∧
    decode [0xDD, 0x2C] = .ok (.incXYL .ix) ∧
    decode [0xFD, 0x2D] = .ok (.decXYL .iy) ∧
    decode [0xDD, 0x2E, 0x80] = .ok (.ldXYLN .ix 0x80) ∧
    decode [0xFD, 0x34, 0x7F] = .ok (.incMemXYd .iy 0x7F) ∧
    decode [0xDD, 0x35, 0x80] = .ok (.decMemXYd .ix 0x80) ∧
    decode [0xFD, 0x36, 0xFE, 0xFE] = .ok (.ldMemXYdN .iy 0xFE 0xFE) ∧
    decode [0xDD, 0x7C] = .ok (.ldRXYH .a .ix) ∧
    decode [0xFD, 0x45] = .ok (.ldRXYL .b .iy) ∧
    decode [0xDD, 0x60] = .ok (.ldXYHR .ix .b) ∧
    decode [0xFD, 0x69] = .ok (.ldXYLR .iy .c) ∧
    decode [0xDD, 0x7E, 0x05] = .ok (.ldRMemXYd .a .ix 0x05) ∧
    decode [0xFD, 0x70, 0x7F] = .ok (.ldMemXYdR .iy 0x7F .b) ∧
    decode [0xDD, 0x84] = .ok (.addAXYH .ix) ∧
    decode [0xFD, 0x85] = .ok (.addAXYL .iy) ∧
    decode [0xDD, 0x86, 0x80] = .ok (.addAMemXYd .ix 0x80) ∧
    decode [0xFD, 0x8C] = .ok (.adcAXYH .iy) :=
  ⟨rfl, rfl, rfl, rfl, rfl, rfl, rfl, rfl, rfl, rfl, rfl, rfl, rfl, rfl, rfl, rfl, rfl, rfl, rfl, rfl, rfl, rfl, rfl, rfl, rfl, rfl⟩

/-- The index prefixes: one word of each instruction, its bits written from its row of the opcode table. -/
theorem test_decode_xy2 :
    decode [0xDD, 0x8D] = .ok (.adcAXYL .ix) ∧
    decode [0xFD, 0x8E, 0xFE] = .ok (.adcAMemXYd .iy 0xFE) ∧
    decode [0xDD, 0x94] = .ok (.subXYH .ix) ∧
    decode [0xFD, 0x95] = .ok (.subXYL .iy) ∧
    decode [0xDD, 0x96, 0x05] = .ok (.subMemXYd .ix 0x05) ∧
    decode [0xFD, 0x9C] = .ok (.sbcAXYH .iy) ∧
    decode [0xDD, 0x9D] = .ok (.sbcAXYL .ix) ∧
    decode [0xFD, 0x9E, 0x7F] = .ok (.sbcAMemXYd .iy 0x7F) ∧
    decode [0xDD, 0xA4] = .ok (.andXYH .ix) ∧
    decode [0xFD, 0xA5] = .ok (.andXYL .iy) ∧
    decode [0xDD, 0xA6, 0x80] = .ok (.andMemXYd .ix 0x80) ∧
    decode [0xFD, 0xAC] = .ok (.xorXYH .iy) ∧
    decode [0xDD, 0xAD] = .ok (.xorXYL .ix) ∧
    decode [0xFD, 0xAE, 0xFE] = .ok (.xorMemXYd .iy 0xFE) ∧
    decode [0xDD, 0xB4] = .ok (.orXYH .ix) ∧
    decode [0xFD, 0xB5] = .ok (.orXYL .iy) ∧
    decode [0xDD, 0xB6, 0x05] = .ok (.orMemXYd .ix 0x05) ∧
    decode [0xFD, 0xBC] = .ok (.cpXYH .iy) ∧
    decode [0xDD, 0xBD] = .ok (.cpXYL .ix) ∧
    decode [0xFD, 0xBE, 0x7F] = .ok (.cpMemXYd .iy 0x7F) ∧
    decode [0xDD, 0xE1] = .ok (.popXY .ix) ∧
    decode [0xFD, 0xE3] = .ok (.exMemSPXY .iy) ∧
    decode [0xDD, 0xE5] = .ok (.pushXY .ix) ∧
    decode [0xFD, 0xE9] = .ok (.jpXY .iy) ∧
    decode [0xDD, 0xF9] = .ok (.ldSPXY .ix) :=
  ⟨rfl, rfl, rfl, rfl, rfl, rfl, rfl, rfl, rfl, rfl, rfl, rfl, rfl, rfl, rfl, rfl, rfl, rfl, rfl, rfl, rfl, rfl, rfl, rfl, rfl⟩

/-- The form P 0xCB d op: one word of each instruction, its bits written from its row of the opcode table. -/
theorem test_decode_xycb :
    decode [0xFD, 0xCB, 0x80, 0x06] = .ok (.rlcMemXYd .iy 0x80) ∧
    decode [0xDD, 0xCB, 0xFE, 0x01] = .ok (.rlcMemXYdR .ix 0xFE .c) ∧
    decode [0xFD, 0xCB, 0x05, 0x0E] = .ok (.rrcMemXYd .iy 0x05) ∧
    decode [0xDD, 0xCB, 0x7F, 0x0A] = .ok (.rrcMemXYdR .ix 0x7F .d) ∧
    decode [0xFD, 0xCB, 0x80, 0x16] = .ok (.rlMemXYd .iy 0x80) ∧
    decode [0xDD, 0xCB, 0xFE, 0x13] = .ok (.rlMemXYdR .ix 0xFE .e) ∧
    decode [0xFD, 0xCB, 0x05, 0x1E] = .ok (.rrMemXYd .iy 0x05) ∧
    decode [0xDD, 0xCB, 0x7F, 0x1C] = .ok (.rrMemXYdR .ix 0x7F .h) ∧
    decode [0xFD, 0xCB, 0x80, 0x26] = .ok (.slaMemXYd .iy 0x80) ∧
    decode [0xDD, 0xCB, 0xFE, 0x25] = .ok (.slaMemXYdR .ix 0xFE .l) ∧
    decode [0xFD, 0xCB, 0x05, 0x2E] = .ok (.sraMemXYd .iy 0x05) ∧
    decode [0xDD, 0xCB, 0x7F, 0x2F] = .ok (.sraMemXYdR .ix 0x7F .a) ∧
    decode [0xFD, 0xCB, 0x80, 0x36] = .ok (.sllMemXYd .iy 0x80) ∧
    decode [0xDD, 0xCB, 0xFE, 0x30] = .ok (.sllMemXYdR .ix 0xFE .b) ∧
    decode [0xFD, 0xCB, 0x05, 0x3E] = .ok (.srlMemXYd .iy 0x05) ∧
    decode [0xDD, 0xCB, 0x7F, 0x39] = .ok (.srlMemXYdR .ix 0x7F .c) ∧
    decode [0xFD, 0xCB, 0x80, 0x7D] = .ok (.bitMemXYd 7 .iy 0x80 5) ∧
    decode [0xDD, 0xCB, 0xFE, 0x86] = .ok (.resMemXYd 0 .ix 0xFE) ∧
    decode [0xFD, 0xCB, 0x05, 0x9A] = .ok (.resMemXYdR 3 .iy 0x05 .d) ∧
    decode [0xDD, 0xCB, 0x7F, 0xF6] = .ok (.setMemXYd 6 .ix 0x7F) ∧
    decode [0xFD, 0xCB, 0x80, 0xEB] = .ok (.setMemXYdR 5 .iy 0x80 .e) :=
  ⟨rfl, rfl, rfl, rfl, rfl, rfl, rfl, rfl, rfl, rfl, rfl, rfl, rfl, rfl, rfl, rfl, rfl, rfl, rfl, rfl, rfl⟩

/-- A list that ends inside an instruction is rejected by name; an ignored prefix needs the byte after it (30_encoding.md R111,
R113). -/
theorem test_decode_incomplete :
    decode [] = .error .noBytes ∧ decode [0x21, 0x34] = .error .truncated ∧ decode [0xDD] = .error .truncated ∧
    decode [0xDD, 0xCB, 0x05] = .error .truncated := ⟨rfl, rfl, rfl, rfl⟩

/-- The decode vectors of 2.10 that the lists above do not have: duplicates, real H after a displacement, ignored prefixes. -/
theorem test_decode_vectors :
    decode [0xED, 0x63, 0x00, 0x40] = .ok (.ldMemNnRp 0x4000 .hl) ∧ decode [0xED, 0x4D] = .ok .reti ∧
    decode [0xED, 0x55] = .ok (.retn 2) ∧ decode [0xDD, 0x64] = .ok (.ldRXYH .xyh .ix) ∧
    decode [0xFD, 0x74, 0x05] = .ok (.ldMemXYdR .iy 0x05 .h) ∧ decode [0xDD, 0x36, 0x05, 0x55] = .ok (.ldMemXYdN .ix 0x05 0x55) ∧
    decode [0xDD, 0xCB, 0x05, 0xC6] = .ok (.setMemXYd 0 .ix 0x05) ∧
    decode [0xDD, 0xCB, 0x05, 0xC0] = .ok (.setMemXYdR 0 .ix 0x05 .b) ∧
    decode [0xFD, 0xCB, 0x05, 0x7F] = .ok (.bitMemXYd 7 .iy 0x05 7) ∧ decode [0xFD, 0xED] = .ok (.prefixIgnored .iy) ∧
    decode [0xDD, 0xFD, 0x21, 0x34] = .ok (.prefixIgnored .ix) ∧ decode [0xDD, 0xEB] = .ok (.prefixIgnored .ix) :=
  ⟨rfl, rfl, rfl, rfl, rfl, rfl, rfl, rfl, rfl, rfl, rfl, rfl⟩

/-- Words numbered as the table numbers them, the first byte the most significant, with and without operand bits (log 13). -/
theorem test_table_words :
    decodeTableWord 8 0x78 = some (.ldRR .a .b) ∧ decodeTableWord 8 0x01 = some (.ldRpNn .bc 0) ∧
    decodeTableWord 16 0xCB36 = some .sllMemHL ∧ decodeTableWord 16 0xED71 = some .outC0 ∧
    decodeTableWord 16 0xDD24 = some (.incXYH .ix) ∧ decodeTableWord 32 0xDDCB0006 = some (.rlcMemXYd .ix 0) ∧
    decodeTableWord 8 0xDD = some (.prefixIgnored .ix) := ⟨rfl, rfl, rfl, rfl, rfl, rfl, rfl⟩

/-- The instruction placed for the host is the one that the next step from reset runs, in ROM at 0x0000. -/
theorem test_withFetchWord :
    (State.reset.withFetchWord 16 0xED71).nextInstr = .outC0 ∧ (State.reset.withFetchWord 8 0x3E).nextInstr = .ldRN .a 0 ∧
    (State.reset.withFetchWord 16 0xED71).stepKind = .instruction := ⟨rfl, rfl, rfl⟩

/-! ### One step on a small state -/

/-- Registers by name, the others zero; PC at 0x6000. -/
def testRegs (a f : Byte := 0) (bc de hl ix iy : Word := 0) (sp : Word := 0x8000) (wz : Word := 0) : Cpu :=
  { State.reset.cpu with
    main := (((RegSet.zero.putAF (a ++ f)).putBC bc).putDE de).putHL hl
    ix := ix, iy := iy, sp := sp, wz := wz, pc := 0x6000 }

/-- A machine with these registers, RAM bytes at 0x4000 and an instruction at PC. -/
def testState (c : Cpu) (ram code : List Byte) : State :=
  State.placeBytes code c.pc (State.placeBytes ram 0x4000 { State.reset with cpu := c })

/-- The state after one step; the reset state where the step gives none. -/
def stepped (s : State) : State :=
  match step s with
  | .next t => t
  | _ => State.reset

/-- One step of an instruction. -/
def ran (c : Cpu) (ram code : List Byte) : State := stepped (testState c ram code)

/-- A RAM byte of the default map. -/
def ramAt (t : State) (key : Nat) : Byte := t.mem.ram.read key

theorem test_load8 :
    (let t := ran (testRegs (bc := 0x1200)) [] [0x78]; t.a == 0x12 && t.stepCycles == 4) = true ∧ -- L8-1
    (let t := ran (testRegs (ix := 0x1234)) [] [0xDD, 0x7C]; t.a == 0x12 && t.stepCycles == 8) = true ∧ -- L8-2
    (let t := ran (testRegs (a := 0x77) (iy := 0x1234)) [] [0xFD, 0x6F]; t.cpu.iy == 0x1277) = true ∧ -- L8-3
    (let t := ran (testRegs (ix := 0x4000)) [0, 0, 0, 0, 0, 0x9A] [0xDD, 0x66, 0x05];
      t.cpu.main.h == 0x9A && t.cpu.ix == 0x4000 && t.stepCycles == 19) = true ∧ -- L8-4
    (let t := ran (testRegs (a := 0x5A) (iy := 0x4080)) [] [0xFD, 0x77, 0x80]; ramAt t 0x4000 == 0x5A) = true ∧ -- L8-6
    (let t := ran (testRegs (hl := 0x4010)) [] [0x74]; ramAt t 0x4010 == 0x40) = true ∧ -- L8-7
    (let t := ran (testRegs (ix := 0x4000)) [] [0xDD, 0x36, 0xFF, 0x55]; t.cpu.pc == 0x6004 && t.stepCycles == 19) = true := -- L8-8
  by decide +kernel

theorem test_load8_wz :
    (let t := ran (testRegs) [] [0x3A, 0x00, 0x80]; t.a == 0xFF && t.cpu.wz == 0x8001 && t.stepCycles == 13) = true ∧ -- L8-9
    (let t := ran (testRegs (a := 0x12)) [] [0x32, 0x00, 0x00]; t.cpu.wz == 0x1201 && t.stepCycles == 13) = true ∧ -- L8-10
    (let t := ran (testRegs (a := 0x12) (bc := 0x40FF)) [] [0x02]; ramAt t 0x40FF == 0x12 && t.cpu.wz == 0x1200) = true ∧ -- L8-11
    (let t := ran (testRegs (ix := 0x1111)) [] [0xDD, 0x26, 0x9C]; t.cpu.ix == 0x9C11 && t.stepCycles == 11) = true := -- L8-12
  by decide +kernel

theorem test_load16 :
    (let t := ran (testRegs) [] [0x21, 0x34, 0x12]; t.hl == 0x1234 && t.stepCycles == 10) = true ∧ -- L16-1
    (let t := ran (testRegs (hl := 0x1234)) [] [0x22, 0x00, 0x40];
      ramAt t 0x4000 == 0x34 && ramAt t 0x4001 == 0x12 && t.cpu.wz == 0x4001 && t.stepCycles == 16) = true ∧ -- L16-2
    (let t := ran (testRegs) [] [0x2A, 0xFF, 0x7F]; t.hl == 0xFF00 && t.cpu.wz == 0x8000) = true ∧ -- L16-3 with mem 0x00
    (let t := ran (testRegs) [0x00, 0x80] [0xED, 0x7B, 0x00, 0x40]; t.cpu.sp == 0x8000 && t.stepCycles == 20) = true ∧ -- L16-4
    (let t := ran (testRegs (hl := 0x5678)) [] [0xED, 0x63, 0x00, 0x40];
      ramAt t 0x4000 == 0x78 && ramAt t 0x4001 == 0x56 && t.stepCycles == 20) = true := -- L16-5
  by decide +kernel

theorem test_stack :
    (let t := ran (testRegs (bc := 0x1234)) [] [0xC5];
      ramAt t 0x7FFF == 0x12 && ramAt t 0x7FFE == 0x34 && t.cpu.sp == 0x7FFE && t.stepCycles == 11) = true ∧ -- L16-6
    (let t := ran (testRegs (de := 0xABCD) (sp := 0x4001)) [] [0xD5]; ramAt t 0x4000 == 0xAB && t.cpu.sp == 0x3FFF) = true ∧ -- L16-7
    (let t := ran (testRegs (sp := 0x4000)) [0xFF, 0x00] [0xF1]; t.a == 0x00 && t.f == 0xFF && t.stepCycles == 10) = true ∧ -- L16-8
    (let t := ran (testRegs (ix := 0x4321) (sp := 0x7FFE)) [] [0xDD, 0xE5];
      ramAt t 0x7FFD == 0x43 && ramAt t 0x7FFC == 0x21 && t.cpu.sp == 0x7FFC && t.stepCycles == 15) = true ∧ -- L16-9
    (let t := ran (testRegs (iy := 0xABCD) (sp := 0x4000)) [0x34, 0x12] [0xFD, 0xE3];
      t.cpu.iy == 0x1234 && ramAt t 0x4000 == 0xCD && ramAt t 0x4001 == 0xAB && t.cpu.wz == 0x1234 &&
      t.stepCycles == 23) = true := -- L16-12
  by decide +kernel

theorem test_exchange :
    (let t := ran { testRegs (a := 0x12) (f := 0x34) with shadow := RegSet.zero.putAF 0x5678 } [] [0x08];
      t.cpu.main.af == 0x5678 && t.cpu.shadow.af == 0x1234) = true ∧ -- L16-10
    (let t := ran { testRegs (f := 3) (bc := 1) with shadow := (RegSet.zero.putAF 4).putBC 2 } [] [0xD9];
      t.bc == 2 && t.cpu.shadow.bc == 1 && t.cpu.main.af == 3) = true ∧ -- L16-11
    (let t := stepped (ran (testRegs (de := 0x1111) (hl := 0x2222)) [] [0xDD, 0xEB]);
      t.de == 0x2222 && t.hl == 0x1111 && t.cpu.r == 2 && t.clock.executed == 8) = true := -- L16-13
  by decide +kernel

theorem test_block :
    (let t := ran (testRegs (bc := 1) (de := 0x5000) (hl := 0x4000)) [0x41] [0xED, 0xA0];
      ramAt t 0x5000 == 0x41 && t.hl == 0x4001 && t.de == 0x5001 && t.bc == 0 && t.f == 0x00 && t.stepCycles == 16) = true ∧ -- BK-1
    (let t := ran (testRegs (hl := 0x4000) (de := 0x5000)) [0x08] [0xED, 0xA0]; t.bc == 0xFFFF && t.f == 0x0C) = true ∧ -- BK-2
    (let t := ran (testRegs (bc := 2) (de := 0x5001) (hl := 0x4001)) [] [0xED, 0xA8];
      t.hl == 0x4000 && t.de == 0x5000 && t.bc == 1 && flagPV t.f) = true ∧ -- BK-3
    (let t := ran (testRegs (bc := 3) (de := 0x5000) (hl := 0x4000)) [] [0xED, 0xB0];
      t.cpu.pc == 0x6000 && t.cpu.wz == 0x6001 && t.stepCycles == 21) = true ∧ -- BK-4
    (let t := ran (testRegs (a := 0x41) (bc := 5) (hl := 0x4000)) [0x41] [0xED, 0xA1];
      t.f == 0x46 && t.bc == 4 && t.hl == 0x4001) = true ∧ -- BK-5
    (let t := ran (testRegs (bc := 0x10) (hl := 0x4000)) [0x05, 0x00] [0xED, 0xB1]; t.cpu.pc == 0x6000 && t.stepCycles == 21) = true ∧
    (let t := ran (testRegs (bc := 0x0F) (hl := 0x4001)) [0x05, 0x00] [0xED, 0xB1];
      t.hl == 0x4002 && t.bc == 0x0E && flagZ t.f && flagPV t.f && t.stepCycles == 16) = true := -- BK-6, its two steps
  by decide +kernel

theorem test_alu8_add_sub :
    (let t := ran (testRegs (a := 0xFF)) [] [0xC6, 0x01]; t.a == 0x00 && t.f == 0x51) = true ∧ -- A8-1
    (let t := ran (testRegs (a := 0x7F)) [] [0xC6, 0x01]; t.a == 0x80 && t.f == 0x94) = true ∧ -- A8-2
    (let t := ran (testRegs (a := 0x80)) [] [0xC6, 0x80]; t.a == 0x00 && t.f == 0x45) = true ∧ -- A8-3
    (let t := ran (testRegs (a := 0x7F) (f := 1)) [] [0xCE, 0x00]; t.a == 0x80 && t.f == 0x94) = true ∧ -- A8-5
    (let t := ran (testRegs (a := 0xFF) (f := 1)) [] [0xCE, 0x00]; t.a == 0x00 && t.f == 0x51) = true ∧ -- A8-6
    (let t := ran (testRegs) [] [0xD6, 0x01]; t.a == 0xFF && t.f == 0xBB) = true ∧ -- A8-7
    (let t := ran (testRegs (a := 0x80)) [] [0xD6, 0x01]; t.a == 0x7F && t.f == 0x3E) = true ∧ -- A8-8
    (let t := ran (testRegs (a := 0x80) (f := 1)) [] [0xDE, 0x00]; t.a == 0x7F && t.f == 0x3E) = true ∧ -- A8-10
    (let t := ran (testRegs (a := 0x10)) [] [0xFE, 0x20]; t.a == 0x10 && t.f == 0xA3) = true ∧ -- A8-16
    (let t := ran (testRegs (a := 0x7F) (ix := 0x0100)) [] [0xDD, 0x84]; t.a == 0x80 && t.f == 0x94 && t.stepCycles == 8) = true := -- A8-18
  by decide +kernel

theorem test_alu8_logic_inc_dec :
    (let t := ran (testRegs (a := 0x0F)) [] [0xE6, 0x0F]; t.a == 0x0F && t.f == 0x1C) = true ∧ -- A8-12
    (let t := ran (testRegs (a := 0x55)) [] [0xEE, 0xAA]; t.a == 0xFF && t.f == 0xAC) = true ∧ -- A8-13
    (let t := ran (testRegs (a := 0x55)) [] [0xAF]; t.a == 0x00 && t.f == 0x44) = true ∧ -- A8-14
    (let t := ran (testRegs) [] [0xF6, 0x00]; t.f == 0x44) = true ∧ -- A8-15
    (let t := ran (testRegs (f := 1) (bc := 0xFF00)) [] [0x04]; t.bc == 0 && t.f == 0x51) = true ∧ -- A8-20
    (let t := ran (testRegs (bc := 0x7F00)) [] [0x04]; t.f == 0x94) = true ∧ -- A8-21
    (let t := ran (testRegs) [] [0x05]; t.bc == 0xFF00 && t.f == 0xBA) = true ∧ -- A8-23
    (let t := ran (testRegs (bc := 0x8000)) [] [0x05]; t.f == 0x3E) = true ∧ -- A8-24
    (let t := ran (testRegs (ix := 0x4000)) [0, 0, 0xFF] [0xDD, 0x34, 0x02];
      ramAt t 0x4002 == 0x00 && t.f == 0x50 && t.cpu.wz == 0x4002 && t.stepCycles == 23) = true := -- A8-27
  by decide +kernel

theorem test_alu8_accumulator :
    (let t := ran (testRegs (a := 0x9A)) [] [0x27]; t.a == 0x00 && t.f == 0x55) = true ∧ -- A8-28
    (let t := ran (testRegs (a := 0x3C)) [] [0x27]; t.a == 0x42 && t.f == 0x14) = true ∧ -- A8-29
    (let t := ran (testRegs (a := 0x2D) (f := 0x3A)) [] [0x27]; t.a == 0x27 && t.f == 0x26) = true ∧ -- A8-30
    (let t := ran (testRegs (a := 0x5A) (f := 0x41)) [] [0x2F]; t.a == 0xA5 && t.f == 0x73) = true ∧ -- A8-32
    (let t := ran (testRegs (a := 0x80)) [] [0xED, 0x44]; t.a == 0x80 && t.f == 0x87) = true ∧ -- A8-34
    (let t := ran (testRegs (a := 0x01)) [] [0xED, 0x7C]; t.a == 0xFF && t.f == 0xBB && t.stepCycles == 8) = true ∧ -- A8-35
    (let t := ran (testRegs (f := 1)) [] [0x3F]; t.f == 0x10) = true ∧ -- A8-36
    (let t := ran (testRegs (a := 0x28)) [] [0x37]; t.f == 0x29) = true := -- A8-37
  by decide +kernel

theorem test_alu16 :
    (let t := ran (testRegs (f := 0xC4) (hl := 0x0FFF) (de := 1)) [] [0x19];
      t.hl == 0x1000 && t.f == 0xD4 && t.cpu.wz == 0x1000 && t.stepCycles == 11) = true ∧ -- A16-1
    (let t := ran (testRegs (hl := 0x2800)) [] [0x09]; t.hl == 0x2800 && t.f == 0x28) = true ∧ -- A16-3
    (let t := ran (testRegs (ix := 0x8000)) [] [0xDD, 0x29]; t.cpu.ix == 0 && t.f == 0x01 && t.stepCycles == 15) = true ∧ -- A16-4
    (let t := ran (testRegs (f := 1) (hl := 0x7FFF)) [] [0xED, 0x4A]; t.hl == 0x8000 && t.f == 0x94) = true ∧ -- A16-5
    (let t := ran (testRegs (hl := 0xFFFF) (bc := 1)) [] [0xED, 0x4A]; t.hl == 0 && t.f == 0x51) = true ∧ -- A16-6
    (let t := ran (testRegs (hl := 0x8000) (de := 1)) [] [0xED, 0x52]; t.hl == 0x7FFF && t.f == 0x3E) = true ∧ -- A16-8
    (let t := ran (testRegs (f := 1) (hl := 0x1234)) [] [0xED, 0x62]; t.hl == 0xFFFF && t.f == 0xBB) = true ∧ -- A16-9
    (let t := ran (testRegs (sp := 0xFFFF)) [] [0x33]; t.cpu.sp == 0 && t.stepCycles == 6) = true ∧ -- A16-11
    (let t := ran (testRegs (bc := 1)) [] [0x0B]; t.bc == 0 && t.f == 0) = true ∧ -- A16-12
    (let t := ran (testRegs) [] [0xFD, 0x2B]; t.cpu.iy == 0xFFFF && t.stepCycles == 10) = true := -- A16-13
  by decide +kernel

theorem test_rotates :
    (let t := ran (testRegs (a := 0x81)) [] [0x07]; t.a == 0x03 && flagC t.f && !flagZ t.f) = true ∧ -- RB-1
    (let t := ran (testRegs (a := 0x01)) [] [0x0F]; t.a == 0x80 && flagC t.f) = true ∧ -- RB-2
    (let t := ran (testRegs (a := 0x80)) [] [0x17]; t.a == 0x00 && flagC t.f && !flagZ t.f) = true ∧ -- RB-3
    (let t := ran (testRegs (a := 0x01) (f := 1)) [] [0x1F]; t.a == 0x80 && flagC t.f) = true ∧ -- RB-4
    (let t := ran (testRegs (bc := 0x8000)) [] [0xCB, 0x00]; t.bc == 0x0100 && t.f == 0x01) = true ∧ -- RB-5
    (let t := ran (testRegs (bc := 0x0100)) [] [0xCB, 0x08]; t.bc == 0x8000 && t.f == 0x81) = true ∧ -- RB-6
    (let t := ran (testRegs (f := 1) (bc := 0x8000)) [] [0xCB, 0x10]; t.bc == 0x0100 && t.f == 0x01) = true ∧ -- RB-7
    (let t := ran (testRegs (f := 1) (bc := 0x0100)) [] [0xCB, 0x18]; t.bc == 0x8000 && t.f == 0x81) = true ∧ -- RB-8
    (let t := ran (testRegs (bc := 0x8000)) [] [0xCB, 0x20]; t.bc == 0 && t.f == 0x45) = true ∧ -- RB-9
    (let t := ran (testRegs (bc := 0x8000)) [] [0xCB, 0x28]; t.bc == 0xC000 && t.f == 0x84) = true ∧ -- RB-10
    (let t := ran (testRegs (bc := 0x7F00)) [] [0xCB, 0x30]; t.bc == 0xFF00 && t.f == 0xAC) = true ∧ -- RB-13
    (let t := ran (testRegs (bc := 0x0100)) [] [0xCB, 0x38]; t.bc == 0 && t.f == 0x45) = true := -- RB-15
  by decide +kernel

theorem test_rotates_memory :
    (let t := ran (testRegs (hl := 0x4000)) [0x80] [0xCB, 0x06]; ramAt t 0x4000 == 0x01 && t.f == 0x01 && t.stepCycles == 15) = true ∧ -- RB-16
    (let t := ran (testRegs (a := 0x12) (hl := 0x4000)) [0x34] [0xED, 0x6F];
      ramAt t 0x4000 == 0x42 && t.a == 0x13 && !flagPV t.f && t.cpu.wz == 0x4001) = true ∧ -- RB-17
    (let t := ran (testRegs (a := 0x12) (hl := 0x4000)) [0x34] [0xED, 0x67]; ramAt t 0x4000 == 0x23 && t.a == 0x14) = true ∧ -- RB-18
    (let t := ran (testRegs (ix := 0x4000)) [0, 0, 0, 0x01] [0xDD, 0xCB, 0x03, 0x00];
      ramAt t 0x4003 == 0x02 && t.bc == 0x0200 && t.f == 0x00 && t.cpu.wz == 0x4003 && t.stepCycles == 23) = true := -- RB-27
  by decide +kernel

theorem test_bits :
    (let t := ran (testRegs (a := 0x80) (f := 1)) [] [0xCB, 0x7F]; t.f == 0x91 && t.stepCycles == 8) = true ∧ -- RB-19
    (let t := ran (testRegs (a := 0x28)) [] [0xCB, 0x47]; t.f == 0x7C) = true ∧ -- RB-21
    (let t := ran (testRegs (hl := 0x4000) (wz := 0x2800)) [0x00] [0xCB, 0x46]; t.f == 0x7C && t.stepCycles == 12) = true ∧ -- RB-22
    (let t := ran (testRegs (ix := 0x4000)) [0, 0, 0, 0, 0, 0, 0, 0, 1] [0xDD, 0xCB, 0x08, 0x46];
      t.f == 0x10 && t.cpu.wz == 0x4008 && t.stepCycles == 20) = true ∧ -- RB-23
    (let t := ran (testRegs (a := 0xFF) (f := 0xFF)) [] [0xCB, 0x87]; t.a == 0xFE && t.f == 0xFF) = true ∧ -- RB-25
    (let t := ran (testRegs (hl := 0x4000)) [0x00] [0xCB, 0xFE]; ramAt t 0x4000 == 0x80 && t.f == 0x00) = true ∧ -- RB-26
    (let t := ran (testRegs (iy := 0x4000)) [] [0xFD, 0xCB, 0x05, 0xC7]; ramAt t 0x4005 == 0x01 && t.a == 0x01 && t.f == 0x00) = true := -- RB-28
  by decide +kernel

theorem test_jumps :
    (let t := ran (testRegs) [] [0xC3, 0x00, 0x40]; t.cpu.pc == 0x4000 && t.cpu.wz == 0x4000 && t.stepCycles == 10) = true ∧ -- CT-1
    (let t := ran (testRegs) [] [0xCA, 0x00, 0x40]; t.cpu.pc == 0x6003 && t.cpu.wz == 0x4000) = true ∧ -- CT-2 at 0x6000
    (let t := ran (testRegs) [] [0x18, 0x80]; t.cpu.pc == 0x5F82 && t.stepCycles == 12) = true ∧ -- CT-3 at 0x6000
    (let t := ran (testRegs (f := 1)) [] [0x38, 0x02]; t.cpu.pc == 0x6004 && t.stepCycles == 12) = true ∧ -- CT-5
    (let t := ran (testRegs) [] [0x38, 0x02]; t.cpu.pc == 0x6002 && t.stepCycles == 7) = true ∧ -- CT-6
    (let t := ran (testRegs (bc := 0x0100)) [] [0x10, 0xFE]; t.bc == 0 && t.cpu.pc == 0x6002 && t.stepCycles == 8) = true ∧ -- CT-7
    (let t := ran (testRegs) [] [0x10, 0xFE]; t.bc == 0xFF00 && t.cpu.pc == 0x6000 && t.stepCycles == 13) = true ∧ -- CT-8
    (let t := ran (testRegs (hl := 0x5000) (wz := 0x77)) [] [0xE9]; t.cpu.pc == 0x5000 && t.cpu.wz == 0x77) = true ∧ -- CT-9
    (let t := ran (testRegs (iy := 0x4321)) [] [0xFD, 0xE9]; t.cpu.pc == 0x4321 && t.stepCycles == 8) = true := -- CT-10
  by decide +kernel

theorem test_calls_returns :
    (let t := ran (testRegs) [] [0xCD, 0x00, 0x50];
      ramAt t 0x7FFF == 0x60 && ramAt t 0x7FFE == 0x03 && t.cpu.sp == 0x7FFE && t.cpu.pc == 0x5000 && t.stepCycles == 17) = true ∧ -- CT-11
    (let t := ran (testRegs) [] [0xCC, 0x00, 0x50]; t.cpu.pc == 0x6003 && t.cpu.wz == 0x5000 && t.cpu.sp == 0x8000) = true ∧ -- CT-12
    (let t := ran (testRegs (sp := 0x4000)) [0x03, 0x40] [0xC9];
      t.cpu.pc == 0x4003 && t.cpu.sp == 0x4002 && t.cpu.wz == 0x4003 && t.stepCycles == 10) = true ∧ -- CT-13
    (let t := ran (testRegs (f := 0x40)) [] [0xC0]; t.cpu.pc == 0x6001 && t.stepCycles == 5) = true ∧ -- CT-14
    (let t := ran { testRegs (sp := 0x4000) with iff2 := true } [0x10, 0x40] [0xED, 0x45];
      t.cpu.pc == 0x4010 && t.cpu.iff1 && t.stepCycles == 14) = true ∧ -- CT-15
    (let t := ran (testRegs (sp := 0x4000)) [0x10, 0x40] [0xED, 0x4D]; t.cpu.pc == 0x4010 && !t.cpu.iff1) = true ∧ -- CT-16
    (let t := ran (testRegs) [] [0xFF]; ramAt t 0x7FFF == 0x60 && ramAt t 0x7FFE == 0x01 && t.cpu.pc == 0x38) = true := -- CT-17
  by decide +kernel

theorem test_io :
    (let t := ran (testRegs (a := 0x12)) [] [0xDB, 0x80]; t.a == 0xFF && t.cpu.wz == 0x1281 && t.stepCycles == 11) = true ∧ -- IO-1
    (let t := ran (testRegs (a := 0x55)) [] [0xD3, 0xAF]; t.io.pio.outLatch == [0x55] && t.cpu.wz == 0x55B0) = true ∧ -- IO-3
    (let t := ran (testRegs (a := 0x55)) [] [0xD3, 0x80]; t.io.kbd == State.reset.io.kbd && t.io.pio.outLatch == [0x00]) = true ∧ -- IO-4
    (let t := ran (testRegs (bc := 0x00FE)) [] [0xED, 0x40]; t.bc == 0xFFFE && t.f == 0xAC && t.cpu.wz == 0x00FF) = true ∧ -- IO-5
    (let t := ran (testRegs (f := 1) (bc := 0x0010)) [] [0xED, 0x70]; t.f == 0xAD && t.bc == 0x0010) = true ∧ -- IO-7
    (let t := stepped ((testState (testRegs (bc := 0x00AF)) [] [0xED, 0x71]).setPio ⟨[0x33]⟩);
      t.io.pio.outLatch == [0x00] && t.stepCycles == 12) = true := -- IO-8
  by decide +kernel

theorem test_block_io :
    (let t := ran (testRegs (bc := 0x0210) (hl := 0x4000)) [] [0xED, 0xA2];
      ramAt t 0x4000 == 0xFF && t.bc == 0x0110 && t.hl == 0x4001 && t.cpu.wz == 0x0211 && t.f == 0x13) = true ∧ -- IO-9
    (let t := ran (testRegs (bc := 0x0210) (hl := 0x4000)) [] [0xED, 0xAA];
      ramAt t 0x4000 == 0xFF && t.hl == 0x3FFF && t.cpu.wz == 0x020F && t.f == 0x13) = true ∧ -- IO-10
    (let t := ran (testRegs (bc := 0x01AF) (hl := 0x4000)) [0x55] [0xED, 0xA3];
      t.bc == 0x00AF && t.io.pio.outLatch == [0x55] && t.hl == 0x4001 && t.cpu.wz == 0x00B0 && t.f == 0x44) = true ∧ -- IO-11
    (let t := ran (testRegs (bc := 0x02AF) (hl := 0x4000)) [0x80] [0xED, 0xAB];
      t.bc == 0x01AF && t.io.pio.outLatch == [0x80] && t.hl == 0x3FFF && t.f == 0x17 && t.cpu.wz == 0x01AE) = true ∧ -- IO-12
    (let t := ran (testRegs (bc := 0x0210) (hl := 0x4000)) [] [0xED, 0xB2]; t.cpu.pc == 0x6000 && t.stepCycles == 21) = true := -- IO-13
  by decide +kernel

theorem test_cpu_control :
    (let t := ran (testRegs) [] [0x00]; t.cpu.pc == 0x6001 && t.cpu.r == 1 && t.stepCycles == 4) = true ∧ -- CC-1
    (let t := ran (testRegs) [] [0x76]; t.cpu.pc == 0x6001 && t.cpu.halted && (stepped t).stepCycles == 4 &&
      (stepped t).cpu.r == 2) = true ∧ -- CC-2
    (let t := ran (testRegs) [] [0xFB]; t.cpu.iff1 && t.cpu.iff2 && t.cpu.eiInhibit) = true ∧ -- R554
    (let t := ran (testRegs) [] [0xED, 0x5E]; t.cpu.im == .im2 && t.stepCycles == 8) = true ∧ -- CC-6
    (let t := ran { testRegs with i := 0x80, iff2 := true } [] [0xED, 0x57]; t.a == 0x80 && t.f == 0x84 && t.stepCycles == 9) = true ∧ -- CC-8
    (let t := ran { testRegs with r := 0x10 } [] [0xED, 0x5F]; t.a == 0x12) = true ∧ -- CC-10
    (let t := ran { testRegs with r := 0xFF } [] [0xED, 0x5F]; t.a == 0x81 && t.cpu.r == 0x81) = true ∧ -- CC-11
    (let t := ran (testRegs (a := 0x85)) [] [0xED, 0x4F]; t.cpu.r == 0x85) = true ∧ -- CC-13
    (let t := stepped (ran (testRegs (ix := 0x77)) [] [0xDD, 0xFD, 0x21, 0x34, 0x12]);
      t.cpu.ix == 0x77 && t.cpu.iy == 0x1234 && t.cpu.r == 3 && t.clock.executed == 18) = true ∧ -- CC-15
    (let t := ran (testRegs) [] [0xED, 0x77]; t.cpu.pc == 0x6002 && t.stepCycles == 8) = true := -- CC-18
  by decide +kernel

/-- A machine at an instruction boundary, PC = 0x4123 and SP = 0x8000, with a maskable request and IFF1 = IFF2 = 1. -/
def requested (im : IntMode) (vec : Byte) : State :=
  { State.reset with cpu := { testRegs with
      pc := 0x4123, iff1 := true, iff2 := true, im := im, intPending := true, intVec := vec, i := 0x40 } }

theorem test_interrupts :
    (let t := stepped (requested .im1 0xFF); t.cpu.pc == 0x0038 && t.cpu.sp == 0x7FFE && ramAt t 0x7FFF == 0x41 &&
      ramAt t 0x7FFE == 0x23 && !t.cpu.iff1 && !t.cpu.iff2 && !t.cpu.intPending && t.cpu.r == 1 && t.stepCycles == 13) = true ∧ -- EX-1
    (let t := stepped (requested .im0 0xCF); t.cpu.pc == 0x0008 && t.stepCycles == 13) = true ∧ -- EX-3
    (let t := stepped (State.placeBytes [0x00, 0x50] 0x40FF (requested .im2 0xFF));
      t.cpu.pc == 0x5000 && t.cpu.wz == 0x5000 && t.stepCycles == 19) = true ∧ -- EX-5
    (let s := requested .im1 0xFF
     let t := stepped { s with cpu := { s.cpu with nmiPending := true } }
     t.cpu.pc == 0x0066 && !t.cpu.iff1 && t.cpu.iff2 && t.cpu.intPending && ramAt t 0x7FFF == 0x41 && t.stepCycles == 11) = true ∧ -- EX-10
    (let s := requested .im1 0xFF
     { s with cpu := { s.cpu with eiInhibit := true } }.stepKind == .instruction &&
     { s with cpu := { s.cpu with prefixInhibit := true } }.stepKind == .instruction &&
     { s with cpu := { s.cpu with nmiPending := true, eiInhibit := true } }.stepKind == .nmi &&
     { s with cpu := { s.cpu with halted := true, iff1 := false } }.stepKind == .idle) = true := -- EX-8, EX-9, EX-12, EX-7
  by decide +kernel

/-- A mode-0 vector byte that is no RST opcode is refused (EX-4). -/
theorem test_mode_zero_vector : step (requested .im0 0x00) = .refused (.modeZeroVector 0x00) := rfl

theorem test_devices :
    (let t := stepped ((testState testRegs [] [0x00]).setTimer ⟨79870⟩);
      t.io.timer.count == 2 && t.cpu.intPending && t.cpu.intVec == 0xFF) = true ∧ -- EX-14
    (let t := stepped ((testState testRegs [] [0xC3, 0, 0x40]).setVideo ⟨311, 250, 7, [], false⟩);
      t.io.video.line == 0 && t.io.video.dot == 4 && t.io.video.frameCount == 8 &&
      t.io.video.regs == Config.videoLineDone 311 []) = true := -- EX-15
  ⟨rfl, by simp only [Bool.and_eq_true, beq_iff_eq]; exact ⟨⟨⟨rfl, rfl⟩, rfl⟩, rfl⟩⟩

/-- Without XY_EXACT, POP AF and EX AF,AF' leave free bits in Y and X, and F's other bits and A as given (00_scope.md R13). -/
theorem test_free_flag_bits_of_moves :
    (let t := stepped ((testState (testRegs (sp := 0x4000)) [0xFF, 0x12] [0xF1]).withXyExact false)
     t.a = 0x12 ∧ t.f = withYX 0xFF (Config.freeBit 0) (Config.freeBit 1) ∧ t.draws = 2) ∧
    (let c := { testRegs (a := 0x12) (f := 0x34) with shadow := RegSet.zero.putAF 0x5678 }
     let t := stepped ((testState c [] [0x08]).withXyExact false)
     t.a = 0x56 ∧ t.f = withYX 0x78 (Config.freeBit 0) (Config.freeBit 1) ∧ t.cpu.shadow.af = 0x1234 ∧ t.draws = 2) :=
  ⟨⟨rfl, rfl, rfl⟩, rfl, rfl, rfl, rfl⟩

/-- `running`'s machine at IN A,(0x8F) under a VIDEO_DEV that leaves the read of register 0 undefined. -/
def atUndefinedRead : State :=
  { testState testRegs [] [0xDB, 0x8F] with cfg := { Config.default with videoUndefined := [.read 0] } }

/-- A step that reaches an undefined video behaviour is refused; one that reaches another is not (60_exceptions.md R607). -/
theorem test_undefined_video :
    step atUndefinedRead = .refused .videoUndefined ∧
    (stepped { atUndefinedRead with cfg := { Config.default with videoUndefined := [.read 1, .lineDone] } }).cpu.pc = 0x6002 :=
  ⟨rfl, rfl⟩

/-! ### Configurations -/

/-- The default configuration is accepted, and a ROM_IMAGE of another size or an overlapping map is not (LC-1 to LC-3). -/
theorem test_config_check :
    Config.default.check = none ∧ { Config.default with rom := ⟨8192, []⟩ }.check = some .romSize ∧
    { Config.default with memMap := [⟨0, 0x5000, .rom 0⟩, ⟨0x4000, 0x4000, .ram 0x4000⟩, ⟨0x8000, 0x8000, .unmapped⟩] }.check =
      some .memMap ∧
    { Config.default with ioMap := [⟨0, 0x80, .unmapped⟩, ⟨0x80, 0x80, .ram 0⟩] }.check = some .ioMap ∧
    { Config.default with waitStates := 1 }.check = some .parameter ∧
    { Config.default with banks := [⟨0xC000, 0x8000, [.ram 0x10000], .pio 0⟩] }.check = some .banks ∧
    { Config.default with banks := [⟨0xC000, 0x1000, [.ram 0x4800], .pio 0⟩] }.check = some .ramOverlap :=
  by decide +kernel

/-- The lifecycle: a step before init and a second discard are refused (LC-4, LC-6); exec(0) changes nothing (LC-5); a key
without a place changes nothing (LC-9). -/
theorem test_lifecycle :
    step { State.reset with life := .uninitialized } = .refused .callNotAdmitted ∧
    discard { State.reset with life := .discarded } = .refused .callNotAdmitted ∧
    execFor State.reset 0 = .next (0, State.reset) ∧ keyDown State.reset 5 = .next State.reset := ⟨rfl, rfl, rfl, rfl⟩

/-- A draw after a second init is a new one: the count goes on (60_exceptions.md R646). -/
theorem test_reinit_draws :
    (match initMachine { State.reset with draws := 7 } Config.default ResetDraws.zero with
      | .next t => t.draws
      | .fault _ | .refused _ => 0) = 7 := by decide +kernel

/-! ### Witnesses: for each statement with hypotheses, a state and operands that meet them -/

/-- A running machine after reset's devices, at ADD A,0x01 in RAM. -/
def running : State := testState (testRegs (a := 0x12)) [0x41] [0xC6, 0x01]

/-- `running` under other registers. -/
def runningWith (c : Cpu) : State := testState c [0x41] [0xC6, 0x01]

theorem running_inv : running.Inv where
  configured := by decide +kernel
  memory := by decide +kernel
  devices := by decide +kernel
  together := by decide +kernel
  cycles := by decide +kernel
  enables := by decide +kernel
  inhibits := by decide +kernel
  idle := by decide +kernel

theorem running_beam : running.Beam := ⟨by decide +kernel, by decide +kernel⟩

/-- The outcome is a next state. -/
def isNext {α : Type} : Host.Outcome α Fault Refusal → Bool
  | .next _ => true
  | .fault _ | .refused _ => false

theorem exists_next {α : Type} {o : Host.Outcome α Fault Refusal} (h : isNext o = true) : ∃ t, o = .next t := by
  cases o with
  | next t => exact ⟨t, rfl⟩
  | fault _ => cases h
  | refused _ => cases h

theorem running_step : ∃ t, step running = .next t := exists_next (by decide +kernel)

theorem witness_decodeOfEncode :
    (Instr.addAN 0xFF).wf = true ∧ (Instr.addAN 0xFF).mayPrecede [] ∧
    (Instr.prefixIgnored .iy).wf = true ∧ (Instr.prefixIgnored .iy).mayPrecede [0xED, 0x44] :=
  ⟨rfl, trivial, rfl, 0xED, [0x44], rfl, by decide +kernel⟩

theorem witness_encodeOfDecode : decode [0xDD, 0xCB, 0x80, 0x7F, 0x00] = .ok (.bitMemXYd 7 .ix 0x80 7) := rfl

theorem witness_stepRunsDecoded :
    running.life = .running ∧ running.cfg.waitStates = 0 ∧ running.stepKind = .instruction ∧
    decode running.bytesAtPc = .ok (.addAN 0x01) := by
  have h : running.bytesAtPc = [0xC6, 0x01, 0x00, 0x00] := by decide +kernel
  exact ⟨rfl, rfl, rfl, by rw [h]; rfl⟩

theorem witness_boundaryChoice :
    (runningWith { testRegs with nmiPending := true }).stepKind = .nmi ∧ (requested .im1 0xFF).stepKind = .int ∧
    (runningWith { testRegs with halted := true }).stepKind = .idle ∧ running.stepKind = .instruction := ⟨rfl, rfl, rfl, rfl⟩

theorem witness_nmiAcceptance :
    let s := runningWith { testRegs with nmiPending := true, eiInhibit := true }
    s.life = .running ∧ s.cfg.waitStates = 0 ∧ s.stepKind = .nmi ∧ s.videoDefined := ⟨rfl, rfl, rfl, rfl, rfl⟩

theorem witness_maskableAcceptance :
    (∀ im, (requested im 0xC7).life = .running ∧ (requested im 0xC7).cfg.waitStates = 0 ∧ (requested im 0xC7).stepKind = .int ∧
      (requested im 0xC7).videoDefined) ∧
    (requested .im1 0x00).cpu.im = .im1 ∧
    ((requested .im0 0xC7).cpu.im = .im0 ∧ ∃ k : BitVec 3, (requested .im0 0xC7).cpu.intVec = 0b11#2 ++ k ++ 0b111#3) ∧
    (requested .im0 0xFF).cpu.intVec = 0b11#2 ++ 7#3 ++ 0b111#3 :=
  ⟨fun im => by cases im <;> exact ⟨rfl, rfl, rfl, rfl, rfl⟩, rfl, ⟨rfl, 0, rfl⟩, rfl⟩

theorem witness_vectoredAcceptance :
    (requested .im2 0xFF).life = .running ∧ (requested .im2 0xFF).cfg.waitStates = 0 ∧
    (requested .im2 0xFF).stepKind = .int ∧ (requested .im2 0xFF).cpu.im = .im2 ∧ (requested .im2 0xFF).videoDefined :=
  ⟨rfl, rfl, rfl, rfl, rfl, rfl⟩

theorem witness_stopsByName :
    { running with life := .uninitialized }.life ≠ .running ∧
    { running with cfg := { running.cfg with waitStates := 1 } }.cfg.waitStates ≠ 0 ∧
    ((requested .im0 0xCE).stepKind = .int ∧ ∀ k : BitVec 3, (requested .im0 0xCE).cpu.intVec ≠ 0b11#2 ++ k ++ 0b111#3) ∧
    (running.life ≠ .discarded ∧ { Config.default with rom := ⟨8192, []⟩ }.check = some .romSize) ∧
    { running with life := .discarded }.life = .discarded :=
  ⟨by decide, by decide, ⟨rfl, by decide +kernel⟩, ⟨by decide, by decide +kernel⟩, rfl⟩

/-- A step that reaches an undefined read, and a geometry left undefined. -/
theorem witness_stopsByName_video :
    (atUndefinedRead.life = .running ∧ atUndefinedRead.cfg.waitStates = 0 ∧
      ∃ t, cpuStep atUndefinedRead = .next t ∧ t.tickDevices.io.video.undef = true) ∧
    VideoCall.geometry ∈ { Config.default with videoUndefined := [.geometry] }.videoUndefined :=
  ⟨⟨rfl, rfl, _, rfl, rfl⟩, by decide⟩

/-- Broken tables at a boundary: the last address in no region, one address in two, a region of length 0, one past the end, two out
of order; and a ROM_IMAGE one byte short, and one wait state. -/
theorem witness_stopsByName_config :
    tableBroken [⟨0, 0xFFFF, .unmapped⟩] 0x10000 ∧
    tableBroken [⟨0, 0x4001, .unmapped⟩, ⟨0x4000, 0xC000, .unmapped⟩] 0x10000 ∧
    tableBroken [⟨0, 0x10000, .unmapped⟩, ⟨0x10000, 0, .unmapped⟩] 0x10000 ∧
    tableBroken [⟨0, 0x101, .unmapped⟩] 0x100 ∧
    tableBroken [⟨0x80, 0x80, .unmapped⟩, ⟨0, 0x80, .unmapped⟩] 0x100 ∧
    (⟨0x3FFF, []⟩ : RomImage).size ≠ romTotal Config.default ∧ { Config.default with waitStates := 1 }.waitStates ≠ 0 ∧
    running.life ≠ .discarded := by
  refine ⟨.inl ⟨0xFFFF, by decide, ?_⟩, .inr (.inl ⟨0x4000, 0, 1, _, _, rfl, rfl, by decide, ?_, ?_⟩),
    .inr (.inr (.inl ⟨⟨0x10000, 0, .unmapped⟩, by decide, .inl rfl⟩)),
    .inr (.inr (.inl ⟨⟨0, 0x101, .unmapped⟩, by decide, .inr (by decide)⟩)),
    .inr (.inr (.inr ⟨0, 1, _, _, rfl, rfl, by decide, by decide⟩)), by decide, by decide, by decide⟩
  · intro g hg
    simp only [List.mem_singleton] at hg
    subst hg
    exact fun h => absurd h.2 (by decide)
  · exact ⟨by decide, by decide⟩
  · exact ⟨by decide, by decide⟩

theorem witness_deviceLoops :
    0 < running.cfg.timerPeriod ∧ running.io.timer.count + 79872 ≤ 79872 ∧
    0 < running.cfg.cyclesPerLine ∧ running.io.video.dot + 256 ≤ 256 := by decide +kernel

theorem witness_resetValues : running.life ≠ .discarded ∧ Config.default.check = none := ⟨by decide, by decide +kernel⟩

theorem witness_resetInvariant :
    Config.default.check = none ∧ ramStoreOk Config.default [(0x4000, 0x01), (0x7FFF, 0xFF)] = true ∧
    ∃ t, initMachine running Config.default { ResetDraws.zero with ram := [(0x4000, 0x01), (0x7FFF, 0xFF)] } = .next t :=
  ⟨by decide +kernel, by decide +kernel, exists_next (by decide +kernel)⟩

theorem witness_stepKeepsInvariant : running.Inv ∧ ∃ t, step running = .next t := ⟨running_inv, running_step⟩

theorem witness_stepKeepsBeam : running.Inv ∧ running.Beam ∧ (∃ t, step running = .next t) ∧ running.cpu.intPending = false :=
  ⟨running_inv, running_beam, running_step, rfl⟩

theorem witness_runsForEver : running.Inv ∧ running.life = .running ∧ running.rstVectors ∧ running.cfg.videoUndefined = [] :=
  ⟨running_inv, rfl, ⟨rfl, rfl⟩, rfl⟩

theorem witness_execAccounting :
    running.clock.executed < running.target + 23 ∧ ∃ n t, execFor running 1 = .next (n, t) := by
  obtain ⟨p, h⟩ := exists_next (o := execFor running 1) (by decide +kernel)
  exact ⟨by decide +kernel, p.1, p.2, h⟩

theorem witness_snapshotRestores :
    (running.Inv ∧ running.life = .running ∧ running.life = .running ∧ running.cfg = running.cfg) ∧
    (running.life = .running ∧
      ∀ rec : Snapshot, { rec with version := Config.snapshotVersion + 1 }.version ≠ Config.snapshotVersion) :=
  ⟨⟨running_inv, rfl, rfl, rfl⟩, rfl, fun _ => Nat.succ_ne_self _⟩

/-- The record that `running` saves. -/
def savedRecord : Snapshot :=
  ⟨Config.snapshotVersion, Config.snapshotSize, running.snapshotBody, some (running.cfg, running.snapshotBody)⟩

/-- The record of `running` with A changed after the save. -/
def corruptedRecord : Snapshot :=
  { savedRecord with body := { running.snapshotBody with cpu := { running.cpu with main := { running.cpu.main with a := 0x13 } } } }

/-- A record with a matching header that is refused: A changed after the save; and one that is accepted: the save itself. -/
theorem witness_snapshotRestores_refused :
    (corruptedRecord.version = Config.snapshotVersion ∧ corruptedRecord.size = Config.snapshotSize ∧
      corruptedRecord.origin ≠ some (running.cfg, corruptedRecord.body)) ∧
    (running.Inv ∧ ∃ t, loadSnapshot running savedRecord = .next (true, t)) := by
  refine ⟨⟨rfl, rfl, by decide +kernel⟩, running_inv,
    { running with cpu := savedRecord.body.cpu, mem := savedRecord.body.mem, io := savedRecord.body.io }, ?_⟩
  have h : savedRecord.saved running.cfg = true := by decide +kernel
  unfold loadSnapshot
  rw [if_neg (by decide), if_neg (by simp [savedRecord]), if_pos h]

/-- The default map at the ends of its regions. -/
theorem witness_defaultMap :
    running.cfg = Config.default ∧
    running.memTarget 0x0000 = .rom 0 ∧ running.memTarget 0x3FFF = .rom 0x3FFF ∧ running.memTarget 0x4000 = .ram 0x4000 ∧
    running.memTarget 0x7FFF = .ram 0x7FFF ∧ running.memTarget 0x8000 = .unmapped ∧ running.memTarget 0xFFFF = .unmapped ∧
    running.ioTarget 0x127F = .unmapped ∧ running.ioTarget 0x1280 = .device (.kbd 0) ∧
    running.ioTarget 0xFF87 = .device (.kbd 7) ∧ running.ioTarget 0x0088 = .unmapped ∧
    running.ioTarget 0x008F = .device (.video 0) ∧ running.ioTarget 0x00AF = .device (.pio 0) ∧
    running.ioTarget 0x00CF = .device (.video 1) ∧ running.ioTarget 0x00D0 = .unmapped := by decide +kernel

/-- A configuration with the keyboard's rows in memory at 0x8000. -/
def memoryMapped : Config :=
  { Config.default with memMap :=
      [⟨0x0000, 0x4000, .rom 0⟩, ⟨0x4000, 0x4000, .ram 0x4000⟩, ⟨0x8000, 8, .io .kbd⟩, ⟨0x8008, 0x7FF8, .unmapped⟩] }

theorem witness_busAccess :
    running.mem.ram.wf = true ∧ running.memTarget 0x7FFF = .ram 0x7FFF ∧ running.memTarget 0x3FFF = .rom 0x3FFF ∧
    running.memTarget 0x8000 = .unmapped ∧ memoryMapped.check = none ∧
    { running with cfg := memoryMapped }.memTarget 0x8007 = .device (.kbd 7) ∧
    running.ioTarget 0x0080 = .device (.kbd 0) ∧ running.ioTarget 0x0000 = .unmapped ∧
    running.ioTarget 0x008F = .device (.video 0) ∧ running.ioTarget 0x00AF = .device (.pio 0) := by decide +kernel

/-- A configuration with a bank at 0xC000 selected by the PIO: init accepts it, and the bank has an entry and a selection. -/
theorem witness_busAccess_banks :
    let cfg := { Config.default with banks := [⟨0xC000, 0x1000, [.ram 0x10000, .ram 0x11000], .pio 0⟩] }
    cfg.check = none ∧ cfg.banks[0]? = some ⟨0xC000, 0x1000, [.ram 0x10000, .ram 0x11000], .pio 0⟩ ∧
    (State.initial cfg .zero).mem.bankSel[0]? = some 0 := by decide +kernel

theorem witness_ramBytesApart :
    running.cfg.check = none ∧ running.memTarget 0x4000 = .ram 0x4000 ∧ running.memTarget 0x4000 = .ram 0x4000 := by
  decide +kernel

/-- The default configuration with keys at two corners of the matrix. -/
def keyed : State := { running with cfg := { Config.default with keymap := [⟨65, 0, 0⟩, ⟨90, 7, 7⟩] } }

theorem witness_keyboardReads :
    keyed.cfg = { Config.default with keymap := keyed.cfg.keymap } ∧ keyed.life = .running ∧
    keyPosOf keyed.cfg 65 = some ⟨65, 0, 0⟩ ∧ keyPosOf keyed.cfg 90 = some ⟨90, 7, 7⟩ ∧
    keyed.io.kbd.matrix = List.replicate 8 0 := ⟨rfl, rfl, rfl, rfl, rfl⟩

theorem witness_freeFlagBits :
    (∃ t, exec (.addAN 0x80) (running.withXyExact true) = .next t) ∧
    (∃ u, exec (.addAN 0x80) (running.withXyExact false) = .next u) ∧
    writesF (.addAN 0x80) = true ∧ writesF .nop = false ∧
    (∃ t, exec (.popRp2 .af) (running.withXyExact true) = .next t) ∧
    (∃ u, exec (.popRp2 .af) (running.withXyExact false) = .next u) ∧ writesF (.popRp2 .af) = true :=
  ⟨⟨_, rfl⟩, ⟨_, rfl⟩, rfl, rfl, ⟨_, rfl⟩, ⟨_, rfl⟩, rfl⟩

theorem witness_onlyWrittenBy :
    (∃ t, exec .nop running = .next t) ∧ writesF .nop = false ∧ Instr.nop ≠ .exAFAF ∧ Instr.nop ≠ .exx ∧
    Instr.nop ≠ .ldIA ∧ Instr.nop ≠ .ldRA ∧ (∀ y, Instr.nop ≠ .im y) ∧ Instr.nop ≠ .halt ∧ Instr.nop ≠ .di ∧ Instr.nop ≠ .ei ∧
    Instr.nop ≠ .reti ∧ (∀ y, Instr.nop ≠ .retn y) ∧ ∀ p, Instr.nop ≠ .prefixIgnored p := by
  refine ⟨⟨_, rfl⟩, rfl, ?_⟩
  simp

theorem witness_byteLoads :
    byteLoad (.ldRXYH .xyl .ix) = some (.xyl .ix, .reg (.xyh .ix), 8) ∧
    byteLoad (.ldRMemXYd .h .iy 0x80) = some (.reg .h, .mem (.disp .iy 0x80), 19) := ⟨rfl, rfl⟩

theorem witness_byteStores :
    byteStore (.ldMemXYdN .ix 0x7F 0xFF) = some (.disp .ix 0x7F, .imm 0xFF, 19) ∧
    byteStore .ldMemBCA = some (.bc, .reg (.reg .a), 7) := ⟨rfl, rfl⟩

theorem witness_wordMoves :
    wordMove (.ldSPXY .iy) = some (.sp, .reg .iy, 10) ∧ wordMove (.decRp .sp) = some (.sp, .dec .sp, 6) := ⟨rfl, rfl⟩

theorem witness_wordLoads : wordLoad (.ldRpMemNn .sp 0xFFFF) = some (.sp, 0xFFFF, 20) := rfl

theorem witness_wordStores : wordStore (.ldMemNnXY 0x7FFF .ix) = some (0x7FFF, .ix, 20) := rfl

theorem witness_pushes : pushOf (.pushRp2 .af) = some (.af, 11) := rfl

theorem witness_pops : popOf (.popXY .iy) = some (.iy, 14) ∧ popOf (.popRp2 .af) = some (.af, 10) := ⟨rfl, rfl⟩

theorem witness_exchanges : running.cfg.xyExact = true ∧ (running.withXyExact false).cfg.xyExact = false := ⟨rfl, rfl⟩

theorem witness_stackExchanges : exchangeOf .exMemSPHL = some (.hl, 19) := rfl

/-- A copy that repeats and one that ends: BC above 1 and BC = 1. -/
theorem witness_blockCopies :
    blockCopy .lddr = some ⟨false, true⟩ ∧ (runningWith (testRegs (bc := 2))).bc = 2 ∧ (runningWith (testRegs (bc := 1))).bc = 1 :=
  ⟨rfl, rfl, rfl⟩

/-- A search that repeats (BC above 1, another byte) and one that ends on a match. -/
theorem witness_blockSearches :
    blockSearch .cpir = some ⟨true, true⟩ ∧
    (let s := runningWith (testRegs (a := 0x40) (bc := 2) (hl := 0x4000)); s.bc = 2 ∧ (s.memRead s.hl).1 = 0x41) ∧
    (let s := runningWith (testRegs (a := 0x41) (bc := 2) (hl := 0x4000)); s.a = (s.memRead s.hl).1) :=
  ⟨rfl, ⟨rfl, by decide +kernel⟩, by decide +kernel⟩

theorem witness_blockInputs :
    blockIn .indr = some ⟨false, true⟩ ∧ (runningWith (testRegs (bc := 0x0210))).cpu.main.b = 2 ∧
    (runningWith (testRegs (bc := 0x0110))).cpu.main.b = 1 := ⟨rfl, rfl, rfl⟩

theorem witness_blockOutputs :
    blockOut .otir = some ⟨true, true⟩ ∧ (runningWith (testRegs (bc := 0x02AF))).cpu.main.b = 2 ∧
    (runningWith (testRegs (bc := 0x01AF))).cpu.main.b = 1 := ⟨rfl, rfl, rfl⟩

theorem witness_addAndAdc :
    (aluOf (.addAN 0x01) = some (.add, .imm 0x01, 7) ∧ (Alu.add = .add ∨ Alu.add = .adc)) ∧
    (aluOf (.adcAXYH .ix) = some (.adc, .reg (.xyh .ix), 8) ∧ (Alu.adc = .add ∨ Alu.adc = .adc)) :=
  ⟨⟨rfl, .inl rfl⟩, rfl, .inr rfl⟩

theorem witness_subAndSbc :
    (aluOf .subMemHL = some (.sub, .mem .hl, 7) ∧ (Alu.sub = .sub ∨ Alu.sub = .sbc)) ∧
    (aluOf (.sbcAR .a) = some (.sbc, .reg (.reg .a), 4) ∧ (Alu.sbc = .sub ∨ Alu.sbc = .sbc)) :=
  ⟨⟨rfl, .inl rfl⟩, rfl, .inr rfl⟩

theorem witness_compares : aluOf (.cpMemXYd .iy 0x80) = some (.cp, .mem (.disp .iy 0x80), 19) := rfl

theorem witness_logic :
    (aluOf (.andR .b) = some (.and, .reg (.reg .b), 4) ∧ (Alu.and = .and ∨ Alu.and = .xor ∨ Alu.and = .or)) ∧
    aluOf (.xorXYL .iy) = some (.xor, .reg (.xyl .iy), 8) ∧ aluOf (.orN 0xFF) = some (.or, .imm 0xFF, 7) :=
  ⟨⟨rfl, .inl rfl⟩, rfl, rfl⟩

theorem witness_incAndDec :
    (rmwOf .incMemHL = some (.inc, .mem .hl, 11) ∧ (Rmw.inc = .inc ∨ Rmw.inc = .dec)) ∧
    rmwOf (.decXYL .ix) = some (.dec, .reg (.xyl .ix), 8) := ⟨⟨rfl, .inl rfl⟩, rfl⟩

theorem witness_decimalAddition :
    (99 < 100) ∧ (runningWith (testRegs (a := 0x99))).a = BitVec.ofNat 8 (99 / 10 * 16 + 99 % 10) ∧
    (runningWith testRegs).a = BitVec.ofNat 8 (0 / 10 * 16 + 0 % 10) := ⟨by decide, rfl, rfl⟩

theorem witness_wordArithmetic :
    alu16Of (.addXYRp .iy .xy) = some (.add, .iy, .iy, 15) ∧ alu16Of (.adcHLRp .hl) = some (.adc, .hl, .hl, 15) ∧
    alu16Of (.sbcHLRp .sp) = some (.sbc, .hl, .sp, 15) := ⟨rfl, rfl, rfl⟩

theorem witness_accumulatorRotates : rotAOf .rra = some .rr := rfl

theorem witness_rotatesAndShifts :
    rmwOf (.rlcMemXYdR .iy 0x7F .h) = some (.rot .rlc, .copy (.disp .iy 0x7F) .h, 23) ∧
    rmwOf .srlMemHL = some (.rot .srl, .mem .hl, 15) := ⟨rfl, rfl⟩

theorem witness_resAndSet :
    (rmwOf (.resR 7 .a) = some (.res 7, .reg (.reg .a), 8) ∧ (Rmw.res 7 = .res 7 ∨ Rmw.res 7 = .set 7)) ∧
    (rmwOf (.setMemHL 0) = some (.set 0, .mem .hl, 15) ∧ (Rmw.set 0 = .res 0 ∨ Rmw.set 0 = .set 0)) :=
  ⟨⟨rfl, .inl rfl⟩, rfl, .inr rfl⟩

theorem witness_bitTests :
    bitOf (.bitMemXYd 7 .ix 0x80 0) = some (7, .mem (.disp .ix 0x80), 20) ∧ bitOf (.bitMemHL 0) = some (0, .mem .hl, 12) :=
  ⟨rfl, rfl⟩

/-- A relative jump taken at the far end of its range, and one not taken. -/
theorem witness_jumps :
    running.jumpOf (.jrCc .nz 0x80) = some (true, displaced 0x6000 0x80, displaced 0x6000 0x80, 12) ∧
    running.jumpOf (.jrCc .c 0x7F) = some (false, displaced 0x6000 0x7F, 0, 7) := by decide +kernel

theorem witness_calls :
    running.callOf (.callCc .m 0xFFFF) = some (false, 0xFFFF, 10) ∧ running.callOf (.rst 7) = some (true, 0x0038, 11) := by
  decide +kernel

theorem witness_returns :
    running.returnOf (.retCc .p) = some (true, false, 11) ∧ running.returnOf (.retCc .z) = some (false, false, 5) ∧
    running.returnOf (.retn 7) = some (true, false, 14) := by decide +kernel

theorem witness_inputs :
    running.inOf (.inRC .a) = some (some .a, 0, 1, true, 12) ∧ running.inOf .inC = some (none, 0, 1, true, 12) ∧
    running.inOf (.inAN 0xFF) = some (some .a, 0x12FF, 0x1300, false, 11) := ⟨rfl, rfl, rfl⟩

theorem witness_outputs :
    running.outOf (.outNA 0xFF) = some (0x12FF, 0x12, 0x1200, 11) ∧ running.outOf .outC0 = some (0, 0x00, 1, 12) := ⟨rfl, rfl⟩
end

section
/-! SUPPORT. The proof of O25. XY_EXACT (00_scope.md R13): an instruction run under XY_EXACT = false leaves the state that it
leaves under XY_EXACT = true, with the next two free bits in Y and X where it writes F. This holds of each operation that the
meanings are made of, then of the forms that the families share, then of `exec` by cases over the instructions. -/

namespace Sys2Proof.Machine

/-! ### What an instruction leaves under either value of XY_EXACT -/

/-- What an instruction leaves under XY_EXACT = `exact` where it leaves `t` under XY_EXACT = true: if it writes F, Y and X are
the next two free bits under XY_EXACT = false. -/
def State.leftUnder (t : State) (writes exact : Bool) : State :=
  { t with
    cfg := { t.cfg with xyExact := exact }
    cpu := { t.cpu with main := { t.cpu.main with
      f := if writes && !exact then withYX t.f (Config.freeBit t.draws) (Config.freeBit (t.draws + 1)) else t.f } }
    draws := if writes && !exact then t.draws + 2 else t.draws }

/-- A meaning leaves one state under either value of XY_EXACT, up to the free bits of its write of F. -/
def LeavesUnder (writes : Bool) (m : State → Result) : Prop :=
  ∀ s : State, ∃ t : State, ∀ b : Bool, m (s.withXyExact b) = .next (t.leftUnder writes b)

/-- An operation of the state does not look at XY_EXACT. -/
def XyBlind (g : State → State) : Prop := ∀ (s : State) (b : Bool), g (s.withXyExact b) = (g s).withXyExact b

theorem State.leftUnder_exact (t : State) (writes : Bool) : t.leftUnder writes true = t.withXyExact true := by
  cases writes <;> rfl

/-- A meaning that does not look at XY_EXACT. -/
theorem LeavesUnder.of_blind {m : State → Result} {g : State → State} (hm : ∀ s, m s = .next (g s)) (hg : XyBlind g) :
    LeavesUnder false m := fun s => ⟨g s, fun b => by rw [hm, hg]; rfl⟩

/-! ### Registers -/

@[simp] theorem State.withXyExact_cpu (s : State) (b : Bool) : (s.withXyExact b).cpu = s.cpu := rfl
@[simp] theorem State.withXyExact_hl (s : State) (b : Bool) : (s.withXyExact b).hl = s.hl := rfl
@[simp] theorem State.withXyExact_de (s : State) (b : Bool) : (s.withXyExact b).de = s.de := rfl
@[simp] theorem State.withXyExact_bc (s : State) (b : Bool) : (s.withXyExact b).bc = s.bc := rfl
@[simp] theorem State.withXyExact_reg8 (s : State) (b : Bool) (r : Reg8) : (s.withXyExact b).reg8 r = s.reg8 r := rfl
@[simp] theorem State.withXyExact_index (s : State) (b : Bool) (p : IndexReg) : (s.withXyExact b).index p = s.index p := by
  cases p <;> rfl
@[simp] theorem State.withXyExact_dispAddr (s : State) (b : Bool) (p : IndexReg) (d : Byte) :
    (s.withXyExact b).dispAddr p d = s.dispAddr p d := by cases p <;> rfl

@[simp] theorem State.withXyExact_pair (s : State) (b : Bool) (rp : RegPair) : (s.withXyExact b).pair rp = s.pair rp := by
  cases rp <;> rfl
@[simp] theorem State.withXyExact_xyPair (s : State) (b : Bool) (p : IndexReg) (rp : XYPair) :
    (s.withXyExact b).xyPair p rp = s.xyPair p rp := by cases rp <;> cases p <;> rfl
@[simp] theorem State.withXyExact_stackPair (s : State) (b : Bool) (rp : StackPair) :
    (s.withXyExact b).stackPair rp = s.stackPair rp := by cases rp <;> rfl

@[simp] theorem State.setMain_withXyExact (s : State) (b : Bool) (m : RegSet) :
    (s.withXyExact b).setMain m = (s.setMain m).withXyExact b := rfl
@[simp] theorem State.setSp_withXyExact (s : State) (b : Bool) (w : Word) :
    (s.withXyExact b).setSp w = (s.setSp w).withXyExact b := rfl
@[simp] theorem State.setPc_withXyExact (s : State) (b : Bool) (w : Word) :
    (s.withXyExact b).setPc w = (s.setPc w).withXyExact b := rfl
@[simp] theorem State.setIff_withXyExact (s : State) (b c d : Bool) :
    (s.withXyExact b).setIff c d = (s.setIff c d).withXyExact b := rfl
@[simp] theorem State.took_withXyExact (s : State) (b : Bool) (n : Nat) :
    (s.withXyExact b).took n = (s.took n).withXyExact b := rfl
@[simp] theorem State.setWz_withXyExact (s : State) (b : Bool) (w : Word) :
    (s.withXyExact b).setWz w = (s.setWz w).withXyExact b := rfl

@[simp] theorem State.took_leftUnder (t : State) (w b : Bool) (n : Nat) :
    (t.leftUnder w b).took n = (t.took n).leftUnder w b := rfl
@[simp] theorem State.setReg8_leftUnder (t : State) (w b : Bool) (r : Reg8) (v : Byte) :
    (t.leftUnder w b).setReg8 r v = (t.setReg8 r v).leftUnder w b := by cases r <;> rfl
@[simp] theorem State.setIndex_leftUnder (t : State) (w b : Bool) (p : IndexReg) (v : Word) :
    (t.leftUnder w b).setIndex p v = (t.setIndex p v).leftUnder w b := by cases p <;> rfl
@[simp] theorem State.setIndexHigh_leftUnder (t : State) (w b : Bool) (p : IndexReg) (v : Byte) :
    (t.leftUnder w b).setIndexHigh p v = (t.setIndexHigh p v).leftUnder w b := by cases p <;> rfl
@[simp] theorem State.setIndexLow_leftUnder (t : State) (w b : Bool) (p : IndexReg) (v : Byte) :
    (t.leftUnder w b).setIndexLow p v = (t.setIndexLow p v).leftUnder w b := by cases p <;> rfl

@[simp] theorem State.setIndex_withXyExact (s : State) (b : Bool) (p : IndexReg) (w : Word) :
    (s.withXyExact b).setIndex p w = (s.setIndex p w).withXyExact b := s.setIndex_leftUnder false b p w
@[simp] theorem State.setIndexHigh_withXyExact (s : State) (b : Bool) (p : IndexReg) (v : Byte) :
    (s.withXyExact b).setIndexHigh p v = (s.setIndexHigh p v).withXyExact b := s.setIndexHigh_leftUnder false b p v
@[simp] theorem State.setIndexLow_withXyExact (s : State) (b : Bool) (p : IndexReg) (v : Byte) :
    (s.withXyExact b).setIndexLow p v = (s.setIndexLow p v).withXyExact b := s.setIndexLow_leftUnder false b p v
@[simp] theorem State.formDisp_withXyExact (s : State) (b : Bool) (p : IndexReg) (d : Byte) :
    (s.withXyExact b).formDisp p d = (s.formDisp p d).withXyExact b := by cases p <;> rfl
@[simp] theorem State.setPair_withXyExact (s : State) (b : Bool) (rp : RegPair) (w : Word) :
    (s.withXyExact b).setPair rp w = (s.setPair rp w).withXyExact b := by cases rp <;> rfl
@[simp] theorem State.setXYReg8_withXyExact (s : State) (b : Bool) (p : IndexReg) (r : XYReg8) (v : Byte) :
    (s.withXyExact b).setXYReg8 p r v = (s.setXYReg8 p r v).withXyExact b := by cases r <;> cases p <;> rfl

/-! ### The bus and the stack -/

@[simp] theorem State.readTarget_withXyExact (s : State) (b : Bool) (t : BusTarget) :
    (s.withXyExact b).readTarget t = ((s.readTarget t).1, (s.readTarget t).2.withXyExact b) := by
  cases t with
  | device reg => cases reg <;> rfl
  | _ => rfl

@[simp] theorem State.memRead_withXyExact (s : State) (b : Bool) (a : Word) :
    (s.withXyExact b).memRead a = ((s.memRead a).1, (s.memRead a).2.withXyExact b) := s.readTarget_withXyExact b _

@[simp] theorem State.ioRead_withXyExact (s : State) (b : Bool) (port : Word) :
    (s.withXyExact b).ioRead port = ((s.ioRead port).1, (s.ioRead port).2.withXyExact b) := s.readTarget_withXyExact b _

/-- A write draws no free bit and looks at none of F, the count of draws and XY_EXACT, so it may follow a write of F. -/
@[simp] theorem State.writeTarget_leftUnder (t : State) (w b : Bool) (target : BusTarget) (v : Byte) :
    (t.leftUnder w b).writeTarget target v = (t.writeTarget target v).leftUnder w b := by
  cases target with
  | device reg => cases reg <;> rfl
  | _ => rfl

@[simp] theorem State.memWrite_leftUnder (t : State) (w b : Bool) (a : Word) (v : Byte) :
    (t.leftUnder w b).memWrite a v = (t.memWrite a v).leftUnder w b := t.writeTarget_leftUnder w b _ v

@[simp] theorem State.memWrite_withXyExact (s : State) (b : Bool) (a : Word) (v : Byte) :
    (s.withXyExact b).memWrite a v = (s.memWrite a v).withXyExact b := s.memWrite_leftUnder false b a v

@[simp] theorem State.ioWrite_withXyExact (s : State) (b : Bool) (port : Word) (v : Byte) :
    (s.withXyExact b).ioWrite port v = (s.ioWrite port v).withXyExact b := s.writeTarget_leftUnder false b _ v

@[simp] theorem State.memRead16_withXyExact (s : State) (b : Bool) (a : Word) :
    (s.withXyExact b).memRead16 a = ((s.memRead16 a).1, (s.memRead16 a).2.withXyExact b) := by
  simp only [State.memRead16, State.memRead_withXyExact]

@[simp] theorem State.memWrite16_withXyExact (s : State) (b : Bool) (a w : Word) :
    (s.withXyExact b).memWrite16 a w = (s.memWrite16 a w).withXyExact b := by
  simp only [State.memWrite16, State.memWrite_withXyExact]

@[simp] theorem State.readDisp_withXyExact (s : State) (b : Bool) (p : IndexReg) (d : Byte) :
    (s.withXyExact b).readDisp p d = ((s.readDisp p d).1, (s.readDisp p d).2.withXyExact b) := by
  simp only [State.readDisp, State.withXyExact_dispAddr, State.formDisp_withXyExact, State.memRead_withXyExact]

@[simp] theorem State.push_withXyExact (s : State) (b : Bool) (w : Word) :
    (s.withXyExact b).push w = (s.push w).withXyExact b := by
  simp only [State.push, State.withXyExact_cpu, State.setSp_withXyExact, State.memWrite_withXyExact]

@[simp] theorem State.pop_withXyExact (s : State) (b : Bool) :
    (s.withXyExact b).pop = (s.pop.1, s.pop.2.withXyExact b) := by
  simp only [State.pop, State.withXyExact_cpu, State.setSp_withXyExact, State.memRead_withXyExact]

/-! ### Writing F -/

/-- The one place that looks at XY_EXACT: a write of F. -/
@[simp] theorem State.writeFlags_withXyExact (s : State) (b : Bool) (f : Byte) :
    (s.withXyExact b).writeFlags f = (s.setF f).leftUnder true b := by cases b <;> rfl

/-- An operation of the state writes F, and XY_EXACT decides of the Y and X of this write only. -/
def WritesFlags (g : State → State) : Prop :=
  ∀ s : State, ∃ t : State, ∀ b : Bool, g (s.withXyExact b) = t.leftUnder true b

/-- An operation that writes F last, from a state and with an F that do not depend on XY_EXACT. -/
theorem WritesFlags.of_last {g k : State → State} {f : State → Byte} (hg : ∀ s, g s = (k s).writeFlags (f s))
    (hk : XyBlind k) (hf : ∀ s b, f (s.withXyExact b) = f s) : WritesFlags g := fun s =>
  ⟨(k s).setF (f s), fun b => by rw [hg, hk, hf, State.writeFlags_withXyExact]⟩

/-- What follows the write of F may use a value `v` from before it, and anything but Y, X, the count of draws and XY_EXACT. -/
theorem WritesFlags.leavesUnder {α : Type} {m : State → Result} {g : State → State} {v : State → α}
    {after : α → State → State} (hg : WritesFlags g) (hm : ∀ s, m s = .next (after (v s) (g s)))
    (hv : ∀ s b, v (s.withXyExact b) = v s)
    (hafter : ∀ x t b, after x (t.leftUnder true b) = (after x t).leftUnder true b) : LeavesUnder true m := fun s => by
  obtain ⟨t, ht⟩ := hg s
  exact ⟨after (v s) t, fun b => by rw [hm, hv, ht, hafter]⟩

/-- The same where nothing from before the write is used. -/
theorem WritesFlags.leavesUnder_then {m : State → Result} {g after : State → State} (hg : WritesFlags g)
    (hm : ∀ s, m s = .next (after (g s))) (hafter : ∀ t b, after (t.leftUnder true b) = (after t).leftUnder true b) :
    LeavesUnder true m :=
  hg.leavesUnder (v := fun _ => ()) (after := fun _ => after) hm (fun _ _ => rfl) fun _ => hafter

/-- A meaning that writes F and then only counts its cycles. -/
theorem WritesFlags.leavesUnder_took {m : State → Result} {g : State → State} {n : Nat} (hg : WritesFlags g)
    (hm : ∀ s, m s = .next ((g s).took n)) : LeavesUnder true m :=
  hg.leavesUnder_then (after := (·.took n)) hm fun t b => t.took_leftUnder true b n

/-- A meaning whose write of F is its last act but counting its cycles, as in `WritesFlags.of_last`. -/
theorem LeavesUnder.of_last {m : State → Result} {k : State → State} {f : State → Byte} {n : Nat}
    (hm : ∀ s, m s = .next (((k s).writeFlags (f s)).took n)) (hk : XyBlind k) (hf : ∀ s b, f (s.withXyExact b) = f s) :
    LeavesUnder true m :=
  (WritesFlags.of_last (fun _ => rfl) hk hf).leavesUnder_took hm

/-! ### The 8-bit ALU forms -/

/-- An ALU operation writes F, and XY_EXACT decides of the Y and X of this write only. -/
def AluOp.WritesF (op : AluOp) : Prop := ∀ v : Byte, WritesFlags (op · v)

/-- Every ALU operation ends with its write of F, computed from A, the old F and the operand. -/
theorem AluOp.WritesF.of_last {op : AluOp} {k : Byte → State → State} {f : Byte → State → Byte}
    (hop : ∀ s v, op s v = (k v s).writeFlags (f v s)) (hk : ∀ v, XyBlind (k v))
    (hf : ∀ v s b, f v (s.withXyExact b) = f v s) : op.WritesF := fun v =>
  .of_last (fun s => hop s v) (hk v) (hf v)

section
variable {op : AluOp} (hop : op.WritesF)
include hop

/-- What every ALU form does: an operand read without looking at XY_EXACT, then the operation. -/
theorem AluOp.WritesF.leavesUnder {m : State → Result} {src : State → Byte × State} {n : Nat}
    (hm : ∀ s, m s = .next ((op (src s).2 (src s).1).took n))
    (hsrc : ∀ s b, src (s.withXyExact b) = ((src s).1, (src s).2.withXyExact b)) : LeavesUnder true m := fun s => by
  obtain ⟨t, ht⟩ : ∃ t : State, ∀ b, op ((src s).2.withXyExact b) (src s).1 = t.leftUnder true b :=
    hop (src s).1 (src s).2
  exact ⟨t.took n, fun b => by rw [hm, hsrc, ht, State.took_leftUnder]⟩

theorem aluReg_leavesUnder (r : Reg8) : LeavesUnder true (aluReg op r) :=
  hop.leavesUnder (src := fun s => (s.reg8 r, s)) (fun _ => rfl) fun _ _ => rfl

theorem aluImm_leavesUnder (n : Byte) : LeavesUnder true (aluImm op n) :=
  hop.leavesUnder (src := fun s => (n, s)) (fun _ => rfl) fun _ _ => rfl

theorem aluXYH_leavesUnder (p : IndexReg) : LeavesUnder true (aluXYH op p) :=
  hop.leavesUnder (src := fun s => (hi (s.index p), s)) (fun _ => rfl) fun _ _ => by cases p <;> rfl

theorem aluXYL_leavesUnder (p : IndexReg) : LeavesUnder true (aluXYL op p) :=
  hop.leavesUnder (src := fun s => (lo (s.index p), s)) (fun _ => rfl) fun _ _ => by cases p <;> rfl

theorem aluMemHL_leavesUnder : LeavesUnder true (aluMemHL op) :=
  hop.leavesUnder (src := fun s => s.memRead s.hl) (fun _ => rfl) fun s b => s.memRead_withXyExact b s.hl

theorem aluMemXYd_leavesUnder (p : IndexReg) (d : Byte) : LeavesUnder true (aluMemXYd op p d) :=
  hop.leavesUnder (src := fun s => s.readDisp p d) (fun _ => rfl) fun s b => s.readDisp_withXyExact b p d

end

/-! ### The read-modify-write forms -/

/-- A read-modify-write operation writes F or not; XY_EXACT decides of the Y and X of a write only. -/
def RmwOp.LeavesUnder (op : RmwOp) (writes : Bool) : Prop :=
  ∀ (s : State) (v : Byte), ∃ (r : Byte) (t : State), ∀ b : Bool, op (s.withXyExact b) v = (r, t.leftUnder writes b)

theorem incOp_leavesUnder : RmwOp.LeavesUnder incOp true := fun s v =>
  ⟨_, _, fun b => Prod.ext rfl (s.writeFlags_withXyExact b (inc8 v s.f).2)⟩
theorem decOp_leavesUnder : RmwOp.LeavesUnder decOp true := fun s v =>
  ⟨_, _, fun b => Prod.ext rfl (s.writeFlags_withXyExact b (dec8 v s.f).2)⟩
theorem rotOp_leavesUnder (f : Byte → Bool → Byte × Bool) : RmwOp.LeavesUnder (rotOp f) true := fun s v =>
  ⟨(f v (flagC s.f)).1, _, fun b => Prod.ext rfl (s.writeFlags_withXyExact b (rotFlags (f v (flagC s.f))))⟩
theorem resOp_leavesUnder (k : BitVec 3) : RmwOp.LeavesUnder (resOp k) false := fun s _ => ⟨_, s, fun _ => rfl⟩
theorem setOp_leavesUnder (k : BitVec 3) : RmwOp.LeavesUnder (setOp k) false := fun s _ => ⟨_, s, fun _ => rfl⟩

section
variable {op : RmwOp} {w : Bool} (hop : op.LeavesUnder w)
include hop

theorem rmwReg_leavesUnder (n : Nat) (r : Reg8) : LeavesUnder w (rmwReg op n r) := fun s => by
  obtain ⟨v, t, ht⟩ := hop s (s.reg8 r)
  refine ⟨(t.setReg8 r v).took n, fun b => ?_⟩
  simp only [rmwReg, State.withXyExact_reg8, ht, State.setReg8_leftUnder, State.took_leftUnder]

theorem rmwXYH_leavesUnder (n : Nat) (p : IndexReg) : LeavesUnder w (rmwXYH op n p) := fun s => by
  obtain ⟨v, t, ht⟩ := hop s (hi (s.index p))
  refine ⟨(t.setIndexHigh p v).took n, fun b => ?_⟩
  simp only [rmwXYH, State.withXyExact_index, ht, State.setIndexHigh_leftUnder, State.took_leftUnder]

theorem rmwXYL_leavesUnder (n : Nat) (p : IndexReg) : LeavesUnder w (rmwXYL op n p) := fun s => by
  obtain ⟨v, t, ht⟩ := hop s (lo (s.index p))
  refine ⟨(t.setIndexLow p v).took n, fun b => ?_⟩
  simp only [rmwXYL, State.withXyExact_index, ht, State.setIndexLow_leftUnder, State.took_leftUnder]

theorem rmwMemHL_leavesUnder (n : Nat) : LeavesUnder w (rmwMemHL op n) := fun s => by
  obtain ⟨v, t, ht⟩ := hop (s.memRead s.hl).2 (s.memRead s.hl).1
  refine ⟨(t.memWrite s.hl v).took n, fun b => ?_⟩
  simp only [rmwMemHL, State.withXyExact_hl, State.memRead_withXyExact, ht, State.memWrite_leftUnder, State.took_leftUnder]

theorem rmwMemXYd_leavesUnder (n : Nat) (p : IndexReg) (d : Byte) : LeavesUnder w (rmwMemXYd op n p d) := fun s => by
  obtain ⟨v, t, ht⟩ := hop (s.readDisp p d).2 (s.readDisp p d).1
  refine ⟨(t.memWrite (s.dispAddr p d) v).took n, fun b => ?_⟩
  simp only [rmwMemXYd, State.withXyExact_dispAddr, State.readDisp_withXyExact, ht, State.memWrite_leftUnder,
    State.took_leftUnder]

theorem rmwMemXYdR_leavesUnder (n : Nat) (p : IndexReg) (d : Byte) (r : Reg8) :
    LeavesUnder w (rmwMemXYdR op n p d r) := fun s => by
  obtain ⟨v, t, ht⟩ := hop (s.readDisp p d).2 (s.readDisp p d).1
  refine ⟨((t.memWrite (s.dispAddr p d) v).setReg8 r v).took n, fun b => ?_⟩
  simp only [rmwMemXYdR, State.withXyExact_dispAddr, State.readDisp_withXyExact, ht, State.memWrite_leftUnder,
    State.setReg8_leftUnder, State.took_leftUnder]

end

/-! ### Block instructions, input and the digit rotates -/

theorem State.copyStep_writesFlags (step : Word) : WritesFlags (·.copyStep step) :=
  .of_last (fun _ => rfl) (fun s b => by simp) fun s b => by simp

theorem State.searchStep_writesFlags (step : Word) : WritesFlags (fun s => (s.searchStep step).2) :=
  .of_last (fun _ => rfl) (fun s b => by simp) fun s b => by simp

theorem State.inStep_writesFlags (step : Word) : WritesFlags (·.inStep step) :=
  .of_last (fun _ => rfl) (fun s b => by simp) fun s b => by simp

theorem State.outStep_writesFlags (step : Word) : WritesFlags (·.outStep step) :=
  .of_last (fun _ => rfl) (fun s b => by simp) fun s b => by simp

theorem State.inFromC_writesFlags : WritesFlags (fun s => s.inFromC.2) :=
  .of_last (fun _ => rfl) (fun s b => by simp) fun s b => by simp

theorem State.rotateDigits_writesFlags (mem acc : Byte → Byte → Byte) : WritesFlags (·.rotateDigits mem acc) :=
  .of_last (fun _ => rfl) (fun s b => by simp) fun s b => by simp

/-- Whether an iteration repeats depends on BC, on B, or on A and the byte compared. -/
theorem State.repeatCopy_leftUnder (t : State) (w b : Bool) : (t.leftUnder w b).repeatCopy = t.repeatCopy.leftUnder w b := by
  show (if t.bc != 0 then _ else _) = State.leftUnder (if t.bc != 0 then _ else _) w b
  split <;> rfl

theorem State.repeatIo_leftUnder (t : State) (w b : Bool) : (t.leftUnder w b).repeatIo = t.repeatIo.leftUnder w b := by
  show (if t.cpu.main.b != 0 then _ else _) = State.leftUnder (if t.cpu.main.b != 0 then _ else _) w b
  split <;> rfl

theorem State.repeatSearch_leftUnder (v : Byte) (t : State) (w b : Bool) :
    (t.leftUnder w b).repeatSearch v = (t.repeatSearch v).leftUnder w b := by
  show (if t.bc != 0 && t.a - v != 0 then _ else _) = State.leftUnder (if t.bc != 0 && t.a - v != 0 then _ else _) w b
  split <;> rfl

theorem copyRepeat_leavesUnder (step : Word) : LeavesUnder true (fun s => .next (s.copyStep step).repeatCopy) :=
  (State.copyStep_writesFlags step).leavesUnder_then (fun _ => rfl) fun t b => t.repeatCopy_leftUnder true b

theorem searchRepeat_leavesUnder (step : Word) :
    LeavesUnder true (fun s => .next ((s.searchStep step).2.repeatSearch (s.searchStep step).1)) :=
  (State.searchStep_writesFlags step).leavesUnder (v := fun s => (s.memRead s.hl).1) (after := fun v t => t.repeatSearch v)
    (fun _ => rfl) (fun s b => by simp) fun v t b => t.repeatSearch_leftUnder v true b

theorem inRepeat_leavesUnder (step : Word) : LeavesUnder true (fun s => .next (s.inStep step).repeatIo) :=
  (State.inStep_writesFlags step).leavesUnder_then (fun _ => rfl) fun t b => t.repeatIo_leftUnder true b

theorem outRepeat_leavesUnder (step : Word) : LeavesUnder true (fun s => .next (s.outStep step).repeatIo) :=
  (State.outStep_writesFlags step).leavesUnder_then (fun _ => rfl) fun t b => t.repeatIo_leftUnder true b

theorem execInRC_leavesUnder (r : Reg8) : LeavesUnder true (execInRC r) :=
  State.inFromC_writesFlags.leavesUnder (v := fun s => (s.ioRead s.bc).1) (after := fun v t => (t.setReg8 r v).took 12)
    (fun _ => rfl) (fun s b => by simp) fun v t b => by
      rw [State.setReg8_leftUnder, State.took_leftUnder]

/-! ### POP AF and EX AF,AF' -/

/-- A write of AF is a write of A, then of F. -/
theorem writeAF_writesFlags {k : State → State} {w : State → Word} (hk : XyBlind k)
    (hw : ∀ s b, w (s.withXyExact b) = w s) : WritesFlags (fun s => (k s).writeAF (w s)) :=
  .of_last (k := fun s => (k s).setA (hi (w s))) (f := fun s => lo (w s)) (fun _ => rfl)
    (fun s b => by simp only [hk s b, hw]; rfl) fun s b => by rw [hw]

theorem execPopAF_leavesUnder : LeavesUnder true (execPopRp2 .af) :=
  (writeAF_writesFlags (k := fun s => s.pop.2) (w := fun s => s.pop.1) (fun s b => by simp) fun s b => by simp).leavesUnder_took
    fun _ => rfl

theorem execExAFAF_leavesUnder : LeavesUnder true execExAFAF :=
  (writeAF_writesFlags (k := id) (w := fun s => s.cpu.shadow.af) (fun _ _ => rfl) fun _ _ => rfl).leavesUnder
    (v := fun s => s.cpu.shadow.putAF s.cpu.main.af) (after := fun sh t => (t.setShadow sh).took 4) (fun _ => rfl)
    (fun _ _ => rfl) fun _ _ _ => rfl

/-! ### Meanings that do not look at XY_EXACT -/

@[simp] theorem State.loadA_withXyExact (s : State) (b : Bool) (addr : Word) :
    (s.withXyExact b).loadA addr = (s.loadA addr).withXyExact b := by
  simp [State.loadA]

@[simp] theorem State.storeA_withXyExact (s : State) (b : Bool) (addr : Word) :
    (s.withXyExact b).storeA addr = (s.storeA addr).withXyExact b := by
  simp [State.storeA]

@[simp] theorem State.jumpTo_withXyExact (s : State) (b : Bool) (target : Word) :
    (s.withXyExact b).jumpTo target = (s.jumpTo target).withXyExact b := rfl

@[simp] theorem State.popPc_withXyExact (s : State) (b : Bool) : (s.withXyExact b).popPc = s.popPc.withXyExact b := by
  simp [State.popPc]

@[simp] theorem State.callTo_withXyExact (s : State) (b : Bool) (target : Word) :
    (s.withXyExact b).callTo target = (s.callTo target).withXyExact b := by
  simp [State.callTo]

@[simp] theorem State.enterHandler_withXyExact (s : State) (b : Bool) (target : Word) :
    (s.withXyExact b).enterHandler target = (s.enterHandler target).withXyExact b := by
  simp [State.enterHandler]

@[simp] theorem State.returnFromInterrupt_withXyExact (s : State) (b : Bool) :
    (s.withXyExact b).returnFromInterrupt = s.returnFromInterrupt.withXyExact b := by
  simp [State.returnFromInterrupt]

@[simp] theorem State.exchangeSP_withXyExact (s : State) (b : Bool) (w : Word) :
    (s.withXyExact b).exchangeSP w = ((s.exchangeSP w).1, (s.exchangeSP w).2.withXyExact b) := by
  simp [State.exchangeSP]

@[simp] theorem State.outToC_withXyExact (s : State) (b : Bool) (v : Byte) :
    (s.withXyExact b).outToC v = (s.outToC v).withXyExact b := by
  simp [State.outToC]

theorem XyBlind.took {g : State → State} {n : Nat} (hg : XyBlind g) : XyBlind (fun s => (g s).took n) := fun s b =>
  congrArg (State.took · n) (hg s b)

/-- A choice by a condition of F or of a register: both ways without looking at XY_EXACT. -/
theorem XyBlind.ite {c : State → Bool} {g h : State → State} (hc : ∀ s b, c (s.withXyExact b) = c s) (hg : XyBlind g)
    (hh : XyBlind h) : XyBlind (fun s => if c s then g s else h s) := fun s b => by
  show (if c (s.withXyExact b) then _ else _) = _
  rw [hc, hg, hh, apply_ite (State.withXyExact · b)]

/-! ### Every instruction -/

/-- Every meaning leaves one state under either value of XY_EXACT, up to the free bits of its write of F: the forms the families
share, then the meanings that write F last, then those that write none. -/
theorem exec_leavesUnder (i : Instr) : LeavesUnder (writesF i) (exec i) := by
  cases i with
  | addAR r | adcAR r | subR r | sbcAR r | andR r | xorR r | orR r | cpR r =>
    refine aluReg_leavesUnder ?_ r
    exact .of_last (fun _ _ => rfl) (fun _ _ _ => rfl) fun _ _ _ => rfl
  | addAN n | adcAN n | subN n | sbcAN n | andN n | xorN n | orN n | cpN n =>
    refine aluImm_leavesUnder ?_ n
    exact .of_last (fun _ _ => rfl) (fun _ _ _ => rfl) fun _ _ _ => rfl
  | addAMemHL | adcAMemHL | subMemHL | sbcAMemHL | andMemHL | xorMemHL | orMemHL | cpMemHL =>
    refine aluMemHL_leavesUnder ?_
    exact .of_last (fun _ _ => rfl) (fun _ _ _ => rfl) fun _ _ _ => rfl
  | addAMemXYd p d | adcAMemXYd p d | subMemXYd p d | sbcAMemXYd p d | andMemXYd p d | xorMemXYd p d | orMemXYd p d
  | cpMemXYd p d =>
    refine aluMemXYd_leavesUnder ?_ p d
    exact .of_last (fun _ _ => rfl) (fun _ _ _ => rfl) fun _ _ _ => rfl
  | addAXYH p | adcAXYH p | subXYH p | sbcAXYH p | andXYH p | xorXYH p | orXYH p | cpXYH p =>
    refine aluXYH_leavesUnder ?_ p
    exact .of_last (fun _ _ => rfl) (fun _ _ _ => rfl) fun _ _ _ => rfl
  | addAXYL p | adcAXYL p | subXYL p | sbcAXYL p | andXYL p | xorXYL p | orXYL p | cpXYL p =>
    refine aluXYL_leavesUnder ?_ p
    exact .of_last (fun _ _ => rfl) (fun _ _ _ => rfl) fun _ _ _ => rfl
  | incR r => exact rmwReg_leavesUnder incOp_leavesUnder 4 r
  | incXYH p => exact rmwXYH_leavesUnder incOp_leavesUnder 8 p
  | incXYL p => exact rmwXYL_leavesUnder incOp_leavesUnder 8 p
  | incMemHL => exact rmwMemHL_leavesUnder incOp_leavesUnder 11
  | incMemXYd p d => exact rmwMemXYd_leavesUnder incOp_leavesUnder 23 p d
  | decR r => exact rmwReg_leavesUnder decOp_leavesUnder 4 r
  | decXYH p => exact rmwXYH_leavesUnder decOp_leavesUnder 8 p
  | decXYL p => exact rmwXYL_leavesUnder decOp_leavesUnder 8 p
  | decMemHL => exact rmwMemHL_leavesUnder decOp_leavesUnder 11
  | decMemXYd p d => exact rmwMemXYd_leavesUnder decOp_leavesUnder 23 p d
  | rlcR r | rrcR r | rlR r | rrR r | slaR r | sraR r | sllR r | srlR r => exact rmwReg_leavesUnder (rotOp_leavesUnder _) 8 r
  | rlcMemHL | rrcMemHL | rlMemHL | rrMemHL | slaMemHL | sraMemHL | sllMemHL | srlMemHL =>
    exact rmwMemHL_leavesUnder (rotOp_leavesUnder _) 15
  | rlcMemXYd p d | rrcMemXYd p d | rlMemXYd p d | rrMemXYd p d | slaMemXYd p d | sraMemXYd p d | sllMemXYd p d
  | srlMemXYd p d =>
    exact rmwMemXYd_leavesUnder (rotOp_leavesUnder _) 23 p d
  | rlcMemXYdR p d r | rrcMemXYdR p d r | rlMemXYdR p d r | rrMemXYdR p d r | slaMemXYdR p d r
  | sraMemXYdR p d r | sllMemXYdR p d r | srlMemXYdR p d r =>
    exact rmwMemXYdR_leavesUnder (rotOp_leavesUnder _) 23 p d r
  | resR k r => exact rmwReg_leavesUnder (resOp_leavesUnder k) 8 r
  | resMemHL k => exact rmwMemHL_leavesUnder (resOp_leavesUnder k) 15
  | resMemXYd k p d => exact rmwMemXYd_leavesUnder (resOp_leavesUnder k) 23 p d
  | resMemXYdR k p d r => exact rmwMemXYdR_leavesUnder (resOp_leavesUnder k) 23 p d r
  | setR k r => exact rmwReg_leavesUnder (setOp_leavesUnder k) 8 r
  | setMemHL k => exact rmwMemHL_leavesUnder (setOp_leavesUnder k) 15
  | setMemXYd k p d => exact rmwMemXYd_leavesUnder (setOp_leavesUnder k) 23 p d
  | setMemXYdR k p d r => exact rmwMemXYdR_leavesUnder (setOp_leavesUnder k) 23 p d r
  | ldi => exact (State.copyStep_writesFlags 1).leavesUnder_took fun _ => rfl
  | ldd => exact (State.copyStep_writesFlags (-1)).leavesUnder_took fun _ => rfl
  | ldir => exact copyRepeat_leavesUnder 1
  | lddr => exact copyRepeat_leavesUnder (-1)
  | cpi => exact (State.searchStep_writesFlags 1).leavesUnder_took fun _ => rfl
  | cpd => exact (State.searchStep_writesFlags (-1)).leavesUnder_took fun _ => rfl
  | cpir => exact searchRepeat_leavesUnder 1
  | cpdr => exact searchRepeat_leavesUnder (-1)
  | ini => exact (State.inStep_writesFlags 1).leavesUnder_took fun _ => rfl
  | ind => exact (State.inStep_writesFlags (-1)).leavesUnder_took fun _ => rfl
  | inir => exact inRepeat_leavesUnder 1
  | indr => exact inRepeat_leavesUnder (-1)
  | outi => exact (State.outStep_writesFlags 1).leavesUnder_took fun _ => rfl
  | outd => exact (State.outStep_writesFlags (-1)).leavesUnder_took fun _ => rfl
  | otir => exact outRepeat_leavesUnder 1
  | otdr => exact outRepeat_leavesUnder (-1)
  | inC => exact State.inFromC_writesFlags.leavesUnder_took fun _ => rfl
  | inRC r => exact execInRC_leavesUnder r
  | rld | rrd => exact (State.rotateDigits_writesFlags _ _).leavesUnder_took fun _ => rfl
  | exAFAF => exact execExAFAF_leavesUnder
  | popRp2 rp =>
    cases rp with
    | af => exact execPopAF_leavesUnder
    | bc | de | hl => exact .of_blind (fun _ => rfl) fun s b => by simp [State.setStackPair]
  | daa | cpl | neg _ | ccf | scf | rlca | rrca | rla | rra | ldAI | ldAR | bitR _ _ =>
    exact LeavesUnder.of_last (fun _ => rfl) (fun _ _ => rfl) fun _ _ => rfl
  | bitMemHL _ | bitMemXYd _ _ _ _ | addHLRp _ | adcHLRp _ | sbcHLRp _ | addXYRp _ _ =>
    exact LeavesUnder.of_last (fun _ => rfl) (fun s b => by simp) fun s b => by simp
  | nop | noni _ | halt | di | ei | im _ | prefixIgnored _ | ldIA | ldRA | ldRR _ _ | ldRN _ _ | ldSPHL | exDEHL | exx
  | jp _ | jr _ | jpHL => exact .of_blind (fun _ => rfl) fun _ _ => rfl
  | ldRXYH _ _ | ldRXYL _ _ | ldXYHR _ _ | ldXYLR _ _ | ldXYHN _ _ | ldXYLN _ _ | ldRMemHL _ | ldRMemXYd _ _ _ | ldAMemBC
  | ldAMemDE | ldAMemNn _ | ldMemHLR _ | ldMemXYdR _ _ _ | ldMemHLN _ | ldMemXYdN _ _ _ | ldMemBCA | ldMemDEA | ldMemNnA _ =>
    exact .of_blind (fun _ => rfl) fun s b => by simp
  | ldRpNn _ _ | ldXYNn _ _ | ldSPXY _ | incRp _ | incXY _ | decRp _ | decXY _ | ldHLMemNn _ | ldXYMemNn _ _ | ldRpMemNn _ _
  | ldMemNnHL _ | ldMemNnXY _ _ | ldMemNnRp _ _ | pushRp2 _ | pushXY _ | popXY _ | exMemSPHL | exMemSPXY _ | inAN _ | outNA _
  | outCR _ | outC0 => exact .of_blind (fun _ => rfl) fun s b => by simp
  | jpXY _ | call _ | ret | retn _ | reti | rst _ => exact .of_blind (fun _ => rfl) fun s b => by simp
  | jpCc cc nn => exact .of_blind (fun _ => rfl) (.took (.ite (fun _ _ => rfl) (fun _ _ => rfl) fun _ _ => rfl))
  | jrCc cc e => exact .of_blind (fun _ => rfl) (.ite (fun _ _ => rfl) (fun _ _ => rfl) fun _ _ => rfl)
  | djnz e => exact .of_blind (fun _ => rfl) (.ite (fun _ _ => rfl) (fun _ _ => rfl) fun _ _ => rfl)
  | callCc cc nn => exact .of_blind (fun _ => rfl) (.ite (fun _ _ => rfl) (fun s b => by simp) fun _ _ => rfl)
  | retCc cc => exact .of_blind (fun _ => rfl) (.ite (fun _ _ => rfl) (fun s b => by simp) fun _ _ => rfl)

/-! ### The free bits -/

/-- A write of F under XY_EXACT = false keeps the documented flags and takes the next two free bits for Y and X. -/
theorem State.leftUnder_f (t : State) :
    documentedFlags (t.leftUnder true false).f = documentedFlags t.f ∧
    flagY (t.leftUnder true false).f = Config.freeBit t.draws ∧
    flagX (t.leftUnder true false).f = Config.freeBit (t.draws + 1) :=
  ⟨((t.withXyExact false).writeFlags_fWritten t.f).1, flagY_packFlags _ _ _ _ _ _ _ _, flagX_packFlags _ _ _ _ _ _ _ _⟩

/-- Settles O25: both runs leave one state, up to the free bits that a write of F takes. -/
theorem freeFlagBits : Obligations.FreeFlagBits := by
  unfold Obligations.FreeFlagBits
  intro i s t u ht hu
  obtain ⟨v, hv⟩ := exec_leavesUnder i s
  obtain rfl : v.leftUnder (writesF i) true = t := Host.Outcome.next.inj ((hv true).symm.trans ht)
  obtain rfl : v.leftUnder (writesF i) false = u := Host.Outcome.next.inj ((hv false).symm.trans hu)
  rw [State.leftUnder_exact]
  cases writesF i with
  | false => exact ⟨rfl, rfl, nofun, fun _ => ⟨rfl, rfl⟩⟩
  | true =>
    obtain ⟨hdoc, hy, hx⟩ := v.leftUnder_f
    exact ⟨hdoc, rfl, fun _ => ⟨hy, hx, rfl⟩, nofun⟩

end Sys2Proof.Machine
end

section
/-! SUPPORT. For O15: what the check of the configuration gives of a bus access, and that memory and devices fit the configuration
through every bus access and every tick (10_state.md R39 to R44, 60_exceptions.md R626). -/

namespace Sys2Proof

/-! ### What an accepted configuration says of a bus target -/

/-- A configuration that init accepts passes every part of the check. -/
theorem Config.check_eq_none {cfg : Config} :
    cfg.check = none ↔ cfg.memMapOk = true ∧ cfg.ioMapOk = true ∧ cfg.romOk = true ∧ cfg.ramOk = true ∧ cfg.banksOk = true ∧
      cfg.paramsOk = true := by
  simp [Config.check, ite_eq_iff]

/-- The beam's frame has at least one line and a line at least one cycle (60_exceptions.md R650). -/
theorem Config.frame_pos {cfg : Config} (h : cfg.check = none) : 0 < cfg.linesPerFrame ∧ 0 < cfg.cyclesPerLine := by
  obtain ⟨-, -, -, -, -, hp⟩ := Config.check_eq_none.1 h
  simp only [Config.paramsOk, Bool.and_eq_true, decide_eq_true_eq] at hp
  omega

/-- Every bank has a backing to select, and its backings are RAM or ROM (20_memory.md R68). -/
theorem Config.bank_backings {cfg : Config} (h : cfg.check = none) {bank : Bank} (hb : bank ∈ cfg.banks) :
    0 < bank.backings.length ∧ ∀ bk ∈ bank.backings, bk.bankKind = true := by
  obtain ⟨-, -, -, -, hk, -⟩ := Config.check_eq_none.1 h
  simp only [Config.banksOk, Bool.and_eq_true, List.all_eq_true] at hk
  obtain ⟨⟨-, hne⟩, hall⟩ := hk.1 bank hb
  exact ⟨List.length_pos_iff.2 (by simpa using hne), hall⟩

/-- The keys of a RAM backing belong to the configuration. -/
theorem Config.hasRamKey_of_backing {cfg : Config} {base length off : Nat} (h : (Backing.ram base, length) ∈ cfg.backings)
    (hoff : off < length) : cfg.hasRamKey (base + off) = true := by
  refine List.any_eq_true.2 ⟨(base, length), List.mem_filterMap.2 ⟨_, h, rfl⟩, ?_⟩
  simp [hoff]

namespace Machine

/-- A target that the bus can reach in a configuration: a RAM key of one of its backings, a row that the keyboard has. -/
def BusTarget.within (cfg : Config) : BusTarget → Prop
  | .ram key => cfg.hasRamKey key = true
  | .device (.kbd row) => row < cfg.kbdRows
  | .device (.video _) | .device (.pio _) | .rom _ | .unmapped => True

/-- A byte of a backing of the configuration, where a device region stays within the device's registers. -/
theorem backingTarget_within {cfg : Config} {bk : Backing} {length off : Nat} (hoff : off < length)
    (hram : ∀ base, bk = .ram base → (bk, length) ∈ cfg.backings) (hdev : deviceFits cfg length bk = true) :
    (backingTarget bk off).within cfg := by
  cases bk with
  | ram base => exact Config.hasRamKey_of_backing (hram base rfl) hoff
  | io device =>
    cases device with
    | kbd => exact Nat.lt_of_lt_of_le hoff (of_decide_eq_true hdev)
    | video _ | pio => trivial
  | rom _ | unmapped => trivial

/-- An address of a region table leads to a byte of one of its regions, or to nothing. -/
theorem regionTarget_within {cfg : Config} {table : List Region} {a : Nat}
    (h : ∀ g ∈ table, ∀ off < g.length, (backingTarget g.backing off).within cfg) : (regionTarget table a).within cfg := by
  induction table with
  | nil => trivial
  | cons g rest ih =>
    unfold regionTarget
    split
    · exact h g List.mem_cons_self _ (by omega)
    · exact ih fun g' hg => h g' (List.mem_cons_of_mem g hg)

/-- An address of a bank leads to a byte of one of its backings, or to nothing (20_memory.md R68). -/
theorem bankTarget_within {cfg : Config} {banks : List Bank} {js : List Nat} {a : Nat} {target : BusTarget}
    (h : ∀ bank ∈ banks, ∀ bk ∈ bank.backings, ∀ off < bank.length, (backingTarget bk off).within cfg)
    (ht : bankTarget banks js a = some target) : target.within cfg := by
  induction banks generalizing js with
  | nil => cases ht
  | cons bank banks ih =>
    cases js with
    | nil => cases ht
    | cons j js =>
      unfold bankTarget at ht
      split at ht
      · cases ht
        by_cases hj : j < bank.backings.length
        · rw [List.getD_eq_getElem _ _ hj]
          exact h bank List.mem_cons_self _ (List.getElem_mem hj) _ (by omega)
        · rw [List.getD_eq_default _ _ (Nat.le_of_not_lt hj)]
          trivial
      · exact ih (fun b hb => h b (List.mem_cons_of_mem bank hb)) ht

/-- Every MEM address of an accepted configuration leads to a target within it (20_memory.md R64, R68). -/
theorem State.memTarget_within {s : State} (h : s.cfg.check = none) (a : Word) : (s.memTarget a).within s.cfg := by
  obtain ⟨hm, -⟩ := Config.check_eq_none.1 h
  have hfits : ∀ g ∈ s.cfg.memMap, deviceFits s.cfg g.length g.backing = true := by
    simp only [Config.memMapOk, Bool.and_eq_true, List.all_eq_true] at hm
    exact hm.2
  unfold State.memTarget
  cases ht : bankTarget s.cfg.banks s.mem.bankSel a.toNat with
  | none =>
    refine regionTarget_within fun g hg off hoff => backingTarget_within hoff (fun _ _ => ?_) (hfits g hg)
    exact List.mem_append_left _ (List.mem_map_of_mem hg)
  | some target =>
    refine bankTarget_within (fun bank hb bk hbk off hoff => backingTarget_within hoff (fun _ _ => ?_) ?_) ht
    · exact List.mem_append_right _ (List.mem_flatMap.2 ⟨bank, hb, List.mem_map_of_mem hbk⟩)
    · have hkind := (Config.bank_backings h hb).2 bk hbk
      cases bk with
      | ram _ | rom _ => rfl
      | io _ | unmapped => cases hkind

/-- Every port of an accepted configuration leads to a target within it; none is RAM (20_memory.md R74, R75). -/
theorem State.ioTarget_within {s : State} (h : s.cfg.check = none) (port : Word) : (s.ioTarget port).within s.cfg := by
  obtain ⟨-, hi, -⟩ := Config.check_eq_none.1 h
  simp only [Config.ioMapOk, Bool.and_eq_true, List.all_eq_true] at hi
  refine regionTarget_within fun g hg off hoff => ?_
  obtain ⟨hkind, hfits⟩ := hi.2 g hg
  exact backingTarget_within hoff (fun base hb => by rw [hb] at hkind; cases hkind) hfits

/-! ### Memory and devices that fit the configuration -/

/-- Memory and devices as every moment of a step has them in an accepted configuration: the invariant's, but for the mark of an
undefined video behaviour, with which a step goes on until its end refuses it (10_state.md R39 to R44; 60_exceptions.md R607,
R626). -/
structure Fits (cfg : Config) (mem : MemState) (io : IoDevices) : Prop where
  configured : cfg.check = none
  ram : ramStoreOk cfg mem.ram = true
  banks : bankSelOk cfg.banks mem.bankSel = true
  kbd : io.kbd.ok cfg = true
  timer : io.timer.count < cfg.timerPeriod
  line : io.video.line < cfg.linesPerFrame
  dot : io.video.dot < cfg.cyclesPerLine
  latches : io.pio.outLatch.length = cfg.pioOutPorts.length
  together : io.timer.count = io.video.line * cfg.cyclesPerLine + io.video.dot

/-- The memory and the devices of the machine fit its configuration. -/
abbrev State.fits (s : State) : Prop := Fits s.cfg s.mem s.io

theorem MemState.ok_iff {cfg : Config} {m : MemState} :
    m.ok cfg = true ↔ ramStoreOk cfg m.ram = true ∧ bankSelOk cfg.banks m.bankSel = true := by
  simp [MemState.ok]

theorem IoDevices.ok_iff {cfg : Config} {io : IoDevices} :
    io.ok cfg = true ↔ io.kbd.ok cfg = true ∧ io.timer.count < cfg.timerPeriod ∧ io.video.line < cfg.linesPerFrame ∧
      io.video.dot < cfg.cyclesPerLine ∧ io.pio.outLatch.length = cfg.pioOutPorts.length ∧ io.video.undef = false := by
  simp [IoDevices.ok, and_assoc]

theorem IoDevices.together_iff {cfg : Config} {io : IoDevices} :
    io.together cfg = true ↔ io.timer.count = io.video.line * cfg.cyclesPerLine + io.video.dot := by
  simp [IoDevices.together]

theorem Keyboard.ok_iff {cfg : Config} {k : Keyboard} :
    k.ok cfg = true ↔ k.matrix.length = cfg.kbdRows ∧ k.selRow < cfg.kbdRows ∧
      ∀ row ∈ k.matrix, row.toNat < 2 ^ cfg.kbdCols := by
  simp [Keyboard.ok, and_assoc]

theorem State.Inv.fits {s : State} (h : s.Inv) : s.fits := by
  obtain ⟨hram, hbanks⟩ := MemState.ok_iff.1 h.memory
  obtain ⟨hkbd, htimer, hline, hdot, hlatches, -⟩ := IoDevices.ok_iff.1 h.devices
  exact ⟨h.configured, hram, hbanks, hkbd, htimer, hline, hdot, hlatches, IoDevices.together_iff.1 h.together⟩

theorem Fits.memory {cfg : Config} {mem : MemState} {io : IoDevices} (h : Fits cfg mem io) : mem.ok cfg = true :=
  MemState.ok_iff.2 ⟨h.ram, h.banks⟩

theorem Fits.devices {cfg : Config} {mem : MemState} {io : IoDevices} (h : Fits cfg mem io) (hu : io.video.undef = false) :
    io.ok cfg = true :=
  IoDevices.ok_iff.2 ⟨h.kbd, h.timer, h.line, h.dot, h.latches, hu⟩

/-! ### Bus accesses -/

/-- A read selects at most a row that the keyboard has. -/
theorem State.fits.readTarget {s : State} {target : BusTarget} (h : s.fits) (ht : target.within s.cfg) :
    (s.readTarget target).2.fits := by
  cases target with
  | device reg =>
    cases reg with
    | kbd row =>
      obtain ⟨hrows, -, hcols⟩ := Keyboard.ok_iff.1 h.kbd
      exact { h with kbd := Keyboard.ok_iff.2 ⟨hrows, ht, hcols⟩ }
    | video _ | pio _ => exact { h with }
  | ram _ | rom _ | unmapped => exact h

theorem State.fits.memRead {s : State} (h : s.fits) (a : Word) : (s.memRead a).2.fits :=
  h.readTarget (s.memTarget_within h.configured a)

theorem State.fits.ioRead {s : State} (h : s.fits) (port : Word) : (s.ioRead port).2.fits :=
  h.readTarget (s.ioTarget_within h.configured port)

/-- A write to a select register selects a backing that the bank has. -/
theorem selectBanks_ok {reg : DevReg} {v : Byte} {banks : List Bank} {js : List Nat} (k : Nat)
    (hne : ∀ bank ∈ banks, 0 < bank.backings.length) (h : bankSelOk banks js = true) :
    bankSelOk banks (selectBanks reg v k banks js) = true := by
  induction banks generalizing k js with
  | nil => cases js with
    | nil => rfl
    | cons _ _ => cases h
  | cons bank banks ih =>
    cases js with
    | nil => cases h
    | cons j js =>
      simp only [bankSelOk, selectBanks, Bool.and_eq_true, decide_eq_true_eq] at h ⊢
      refine ⟨?_, ih (k + 1) (fun b hb => hne b (List.mem_cons_of_mem bank hb)) h.2⟩
      split
      · exact Nat.mod_lt _ (hne bank List.mem_cons_self)
      · exact h.1

theorem State.fits.devWrite {s : State} (h : s.fits) (reg : DevReg) (v : Byte) : (s.devWrite reg v).fits := by
  have hbanks := selectBanks_ok (reg := reg) (v := v) 0 (fun _ hb => (Config.bank_backings h.configured hb).1) h.banks
  cases reg with
  | kbd _ | video _ => exact { h with banks := hbanks }
  | pio k => exact { h with banks := hbanks, latches := (List.length_set ..).trans h.latches }

/-- A write changes a byte of the configuration's RAM, a device's register or a bank's selection. -/
theorem State.fits.writeTarget {s : State} {target : BusTarget} (h : s.fits) (ht : target.within s.cfg) (v : Byte) :
    (s.writeTarget target v).fits := by
  cases target with
  | ram key =>
    obtain ⟨hwf, hkeys⟩ := Bool.and_eq_true_iff.1 h.ram
    have hram : ramStoreOk s.cfg (s.mem.ram.write key v) = true :=
      Bool.and_eq_true_iff.2 ⟨Memory.write_wf key v hwf, Memory.write_keys ht hkeys⟩
    exact { h with ram := hram }
  | device reg => exact h.devWrite reg v
  | rom _ | unmapped => exact h

theorem State.fits.memWrite {s : State} (h : s.fits) (a : Word) (v : Byte) : (s.memWrite a v).fits :=
  h.writeTarget (s.memTarget_within h.configured a) v

theorem State.fits.ioWrite {s : State} (h : s.fits) (port : Word) (v : Byte) : (s.ioWrite port v).fits :=
  h.writeTarget (s.ioTarget_within h.configured port) v

theorem State.fits.readBytes {s : State} (h : s.fits) (n : Nat) (a : Word) : (State.readBytes n a s).2.fits := by
  induction n generalizing s a with
  | zero => exact h
  | succ n ih => exact ih (h.memRead a) (a + 1)

/-! ### Ticks -/

/-- A scanline moves the beam to the next line of the frame (60_exceptions.md R642). -/
theorem Video.nextLine_line {v : Video} {lines : Nat} (h : v.line < lines) : (v.nextLine lines).line = (v.line + 1) % lines := by
  unfold Video.nextLine
  split
  · next hl => rw [hl, Nat.mod_self]
  · next hl => exact (Nat.mod_eq_of_lt (Nat.lt_of_le_of_ne h hl)).symm

/-- `n` scanlines move the beam `n` lines on, modulo the frame. -/
theorem Video.nextLines_line {v : Video} {lines : Nat} (n : Nat) (h : v.line < lines) :
    (Video.nextLines lines n v).line = (v.line + n) % lines := by
  induction n generalizing v with
  | zero => exact (Nat.mod_eq_of_lt h).symm
  | succ n ih =>
    have hnext := Video.nextLine_line h
    rw [Video.nextLines, ih (hnext ▸ Nat.mod_lt _ (by omega)), hnext, Nat.mod_add_mod, Nat.add_assoc, Nat.add_comm 1]

/-- Timer and beam stay together: what a tick leaves of the time modulo a frame is the line and the dot that it leaves. -/
theorem mod_frame_eq_line_dot (line dot c lines cycles : Nat) (h : 0 < cycles) :
    (line * cycles + dot + c) % (lines * cycles) = (line + (dot + c) / cycles) % lines * cycles + (dot + c) % cycles := by
  rw [Nat.mul_comm lines, Nat.mod_mul, Nat.add_assoc, Nat.add_comm (line * cycles), Nat.add_mul_mod_self_right,
    Nat.add_mul_div_right _ _ h, Nat.add_comm _ line, Nat.mul_comm cycles, Nat.add_comm]

@[simp] theorem State.tickTimer_cfg (s : State) (c : Nat) : (s.tickTimer c).cfg = s.cfg := by
  simp only [State.tickTimer]; split <;> rfl

/-- A tick of the timer changes no device but the timer. -/
@[simp] theorem State.tickTimer_io (s : State) (c : Nat) :
    (s.tickTimer c).io = { s.io with timer := ⟨(s.io.timer.count + c) % s.cfg.timerPeriod⟩ } := by
  simp only [State.tickTimer]; split <;> rfl

/-- A tick of the beam moves it on by the lines that the cycles complete. -/
theorem State.tickVideo_line {s : State} (c : Nat) (h : s.io.video.line < s.cfg.linesPerFrame) :
    (s.tickVideo c).io.video.line =
      (s.io.video.line + (s.io.video.dot + c) / s.cfg.cyclesPerLine) % s.cfg.linesPerFrame := by
  simp only [State.tickVideo, State.setVideo_io]
  split
  · exact Video.nextLines_line _ h
  · exact Video.nextLines_line (v := s.io.video.calling s.cfg .lineDone) _ h

/-- The counters of the devices after a machine step's ticks, and the devices that a tick leaves alone (60_exceptions.md R621). -/
theorem State.tickDevices_counters {s : State} (h : s.io.video.line < s.cfg.linesPerFrame) :
    s.tickDevices.io.timer.count = (s.io.timer.count + s.stepCycles) % s.cfg.timerPeriod ∧
    s.tickDevices.io.video.line =
      (s.io.video.line + (s.io.video.dot + s.stepCycles) / s.cfg.cyclesPerLine) % s.cfg.linesPerFrame ∧
    s.tickDevices.io.video.dot = (s.io.video.dot + s.stepCycles) % s.cfg.cyclesPerLine ∧
    s.tickDevices.io.kbd = s.io.kbd ∧ s.tickDevices.io.pio = s.io.pio := by
  have hline := State.tickVideo_line (s := s.tickTimer s.stepCycles) s.stepCycles (by simpa using h)
  simp only [State.tickTimer_io, State.tickTimer_cfg] at hline
  have hio : s.tickDevices.io = ((s.tickTimer s.stepCycles).tickVideo s.stepCycles).io := rfl
  rw [hio, hline]
  simp [State.tickVideo]

/-- Every tick keeps memory and devices fitting the configuration. -/
theorem State.fits.tickDevices {s : State} (h : s.fits) : s.tickDevices.fits := by
  obtain ⟨hlines, hcycles⟩ := Config.frame_pos h.configured
  obtain ⟨ht, hl, hd, hk, hp⟩ := State.tickDevices_counters h.line
  have hcfg : s.tickDevices.cfg = s.cfg := by rw [State.tickDevices_frame]
  have hmem : s.tickDevices.mem = s.mem := by rw [State.tickDevices_frame]
  unfold State.fits
  rw [hcfg, hmem]
  exact {
    configured := h.configured
    ram := h.ram
    banks := h.banks
    kbd := hk ▸ h.kbd
    timer := ht ▸ Nat.mod_lt _ (Nat.mul_pos hlines hcycles)
    line := hl ▸ Nat.mod_lt _ hlines
    dot := hd ▸ Nat.mod_lt _ hcycles
    latches := hp ▸ h.latches
    together := by
      rw [ht, hl, hd, h.together]
      exact mod_frame_eq_line_dot _ _ _ _ _ hcycles }

end Machine

end Sys2Proof
end

section
/-! SUPPORT. For O15 and O26: what one instruction can do, said once. Every meaning is a chain of register writes, bus accesses and
writes of F. One lemma per operation says what the chain leaves with that operation at its end; then the meaning of each
instruction is its chain. -/

namespace Sys2Proof.Machine

/-! ### What an instruction leaves -/

/-- The CPU after an instruction in all but A to L, IX, IY, SP, PC and WZ: what the few instructions that write its other registers
write to them (10_state.md R22, R28 to R34). -/
def State.controlAfter (s : State) : Instr → Cpu
  | .exAFAF => { s.cpu with shadow := s.cpu.shadow.putAF s.cpu.main.af }
  | .exx => { s.cpu with shadow :=
      ((s.cpu.shadow.putBC s.cpu.main.bc).putDE s.cpu.main.de).putHL s.cpu.main.hl }
  | .ldIA => { s.cpu with i := s.a }
  | .ldRA => { s.cpu with r := s.a }
  | .im y => { s.cpu with im := imOf y }
  | .halt => { s.cpu with halted := true }
  | .di => { s.cpu with iff1 := false, iff2 := false }
  | .ei => { s.cpu with iff1 := true, iff2 := true, eiInhibit := true, prefixInhibit := false }
  | .retn _ | .reti => { s.cpu with iff1 := s.cpu.iff2 }
  | .prefixIgnored _ => { s.cpu with eiInhibit := false, prefixInhibit := true }
  | _ => s.cpu

/-- What a CPU step that began at `s` leaves in `t`: the registers of `c`, but A to L, IX, IY, SP, PC and WZ as they may be; F as it
was if it writes none; the configuration, the clock and the lifecycle; memory and devices that fit the configuration if they did. -/
structure State.Leaves (s : State) (c : Cpu) (writes : Bool) (t : State) : Prop where
  cpu : t.cpu = { c with
    main := t.cpu.main, ix := t.cpu.ix, iy := t.cpu.iy, sp := t.cpu.sp, pc := t.cpu.pc, wz := t.cpu.wz }
  flags : writes = false → t.f = s.f
  cfg : t.cfg = s.cfg
  clock : t.clock = s.clock
  life : t.life = s.life
  fits : s.fits → t.fits

/-- A meaning completes, in at most 23 cycles (70_reset_and_hazards.md R720), and leaves what `State.Leaves` says. -/
def State.Ends (s : State) (c : Cpu) (writes : Bool) (r : Result) : Prop :=
  ∃ t : State, r = .next t ∧ s.Leaves c writes t ∧ t.stepCycles ≤ 23

/-! ### Registers -/

theorem State.Leaves.refl (s : State) (w : Bool) : s.Leaves s.cpu w s := ⟨rfl, fun _ => rfl, rfl, rfl, rfl, id⟩

/-- A write of the registers beside the general ones, at the start. -/
theorem State.Leaves.withCpu (s : State) (w : Bool) (c : Cpu) (hf : c.main.f = s.cpu.main.f := by rfl) :
    s.Leaves c w { s with cpu := c } := ⟨rfl, fun _ => hf, rfl, rfl, rfl, id⟩

section
variable {s t : State} {c : Cpu} {w : Bool}

namespace State.Leaves

/-- An operation that keeps the registers beside the general ones may follow. -/
theorem trans {u : State} (h : s.Leaves c w t) (h' : t.Leaves t.cpu w u) : s.Leaves c w u where
  cpu := by rw [h'.cpu, h.cpu]
  flags hw := (h'.flags hw).trans (h.flags hw)
  cfg := h'.cfg.trans h.cfg
  clock := h'.clock.trans h.clock
  life := h'.life.trans h.life
  fits hs := h'.fits (h.fits hs)

theorem setMain (h : s.Leaves c w t) {m : RegSet} (hf : m.f = t.cpu.main.f := by rfl) : s.Leaves c w (t.setMain m) :=
  h.trans ⟨rfl, fun _ => hf, rfl, rfl, rfl, id⟩

theorem setReg8 (h : s.Leaves c w t) {r : Reg8} {v : Byte} : s.Leaves c w (t.setReg8 r v) := h.setMain (RegSet.put_f ..)

theorem setSp (h : s.Leaves c w t) {v : Word} : s.Leaves c w (t.setSp v) := h.trans ⟨rfl, fun _ => rfl, rfl, rfl, rfl, id⟩

theorem setPc (h : s.Leaves c w t) {v : Word} : s.Leaves c w (t.setPc v) := h.trans ⟨rfl, fun _ => rfl, rfl, rfl, rfl, id⟩

theorem setWz (h : s.Leaves c w t) {v : Word} : s.Leaves c w (t.setWz v) := h.trans ⟨rfl, fun _ => rfl, rfl, rfl, rfl, id⟩

theorem setIndex (h : s.Leaves c w t) {p : IndexReg} {v : Word} : s.Leaves c w (t.setIndex p v) := by
  cases p <;> exact h.trans ⟨rfl, fun _ => rfl, rfl, rfl, rfl, id⟩

theorem setPair (h : s.Leaves c w t) {rp : RegPair} {v : Word} : s.Leaves c w (t.setPair rp v) := by
  cases rp with
  | bc | de | hl => exact h.setMain
  | sp => exact h.setSp

theorem setXYReg8 (h : s.Leaves c w t) {p : IndexReg} {r : XYReg8} {v : Byte} : s.Leaves c w (t.setXYReg8 p r v) := by
  cases r with
  | xyh | xyl => exact h.setIndex
  | b | c | d | e | a => exact h.setReg8

theorem ite {b : Bool} {u : State} (ht : s.Leaves c w t) (hu : s.Leaves c w u) : s.Leaves c w (if b then t else u) := by
  cases b with
  | true => exact ht
  | false => exact hu

theorem took (h : s.Leaves c w t) {n : Nat} : s.Leaves c w (t.took n) := h.trans ⟨rfl, fun _ => rfl, rfl, rfl, rfl, id⟩

theorem setShadow (h : s.Leaves c w t) {m : RegSet} : s.Leaves { c with shadow := m } w (t.setShadow m) :=
  ⟨congrArg ({ · with shadow := m }) h.cpu, h.flags, h.cfg, h.clock, h.life, h.fits⟩

theorem setIff (h : s.Leaves c w t) {a b : Bool} : s.Leaves { c with iff1 := a, iff2 := b } w (t.setIff a b) :=
  ⟨congrArg ({ · with iff1 := a, iff2 := b }) h.cpu, h.flags, h.cfg, h.clock, h.life, h.fits⟩

/-- Writing F is for an instruction whose rule writes it. -/
theorem writeFlags (h : s.Leaves c true t) {f : Byte} : s.Leaves c true (t.writeFlags f) := h.trans (by
  rw [State.writeFlags_state]
  exact ⟨rfl, nofun, rfl, rfl, rfl, id⟩)

/-! ### The bus and the stack -/

/-- A bus access leaves the CPU alone, and memory and devices fitting the configuration. -/
theorem bus {u : State} (h : s.Leaves c w t) (hcpu : u.cpu = t.cpu) (hcfg : u.cfg = t.cfg) (hclock : u.clock = t.clock)
    (hlife : u.life = t.life) (hfits : t.fits → u.fits) : s.Leaves c w u :=
  h.trans ⟨by rw [hcpu], fun _ => congrArg (·.main.f) hcpu, hcfg, hclock, hlife, hfits⟩

theorem memRead (h : s.Leaves c w t) {a : Word} : s.Leaves c w (t.memRead a).2 :=
  h.bus (t.memRead_cpu a) (t.memRead_cfg a) (t.memRead_clock a) (t.memRead_life a) (·.memRead a)

theorem ioRead (h : s.Leaves c w t) {a : Word} : s.Leaves c w (t.ioRead a).2 :=
  h.bus (t.ioRead_cpu a) (t.ioRead_cfg a) (t.ioRead_clock a) (t.ioRead_life a) (·.ioRead a)

theorem memWrite (h : s.Leaves c w t) {a : Word} {v : Byte} : s.Leaves c w (t.memWrite a v) :=
  h.bus (t.memWrite_cpu a v) (t.memWrite_cfg a v) (t.memWrite_clock a v) (t.memWrite_life a v) (·.memWrite a v)

theorem ioWrite (h : s.Leaves c w t) {a : Word} {v : Byte} : s.Leaves c w (t.ioWrite a v) :=
  h.bus (t.ioWrite_cpu a v) (t.ioWrite_cfg a v) (t.ioWrite_clock a v) (t.ioWrite_life a v) (·.ioWrite a v)

theorem readDisp (h : s.Leaves c w t) {p : IndexReg} {d : Byte} : s.Leaves c w (t.readDisp p d).2 := h.setWz.memRead

theorem memRead16 (h : s.Leaves c w t) {a : Word} : s.Leaves c w (t.memRead16 a).2 := h.memRead.memRead

theorem memWrite16 (h : s.Leaves c w t) {a v : Word} : s.Leaves c w (t.memWrite16 a v) := h.memWrite.memWrite

theorem push (h : s.Leaves c w t) {v : Word} : s.Leaves c w (t.push v) := h.setSp.memWrite.setSp.memWrite

theorem pop (h : s.Leaves c w t) : s.Leaves c w t.pop.2 := h.memRead.setSp.memRead.setSp

theorem exchangeSP (h : s.Leaves c w t) {v : Word} : s.Leaves c w (t.exchangeSP v).2 := h.memRead16.memWrite.memWrite

theorem jumpTo (h : s.Leaves c w t) {target : Word} : s.Leaves c w (t.jumpTo target) := h.setPc.setWz

theorem popPc (h : s.Leaves c w t) : s.Leaves c w t.popPc := h.pop.jumpTo

theorem enterHandler (h : s.Leaves c w t) {target : Word} : s.Leaves c w (t.enterHandler target) := h.push.setPc.setWz

/-! ### The bodies of the block instructions and of the digit rotates -/

theorem copyStep (h : s.Leaves c true t) {step : Word} : s.Leaves c true (t.copyStep step) := h.memRead.memWrite.setMain.writeFlags

theorem searchStep (h : s.Leaves c true t) {step : Word} : s.Leaves c true (t.searchStep step).2 :=
  h.memRead.setMain.setWz.writeFlags

theorem inStep (h : s.Leaves c true t) {step : Word} : s.Leaves c true (t.inStep step) :=
  h.ioRead.setWz.memWrite.setMain.writeFlags

theorem outStep (h : s.Leaves c true t) {step : Word} : s.Leaves c true (t.outStep step) :=
  h.memRead.setMain.ioWrite.setMain.setWz.writeFlags

theorem rotateDigits (h : s.Leaves c true t) {mem acc : Byte → Byte → Byte} : s.Leaves c true (t.rotateDigits mem acc) :=
  h.memRead.memWrite.setMain.setWz.writeFlags

end State.Leaves

/-! ### The end of a meaning -/

namespace State.Ends

theorem took (h : s.Leaves c w t) {n : Nat} (hn : n ≤ 23 := by decide) : s.Ends c w (.next (t.took n)) :=
  ⟨_, rfl, h.took, hn⟩

theorem ite {b : Bool} {u : State} (ht : s.Ends c w (.next t)) (hu : s.Ends c w (.next u)) :
    s.Ends c w (.next (if b then t else u)) := by
  cases b with
  | true => exact ht
  | false => exact hu

theorem repeatCopy (h : s.Leaves c w t) : s.Ends c w (.next t.repeatCopy) := ite (took h.setWz.setPc) (took h)

theorem repeatSearch (h : s.Leaves c w t) {v : Byte} : s.Ends c w (.next (t.repeatSearch v)) := ite (took h.setWz.setPc) (took h)

theorem repeatIo (h : s.Leaves c w t) : s.Ends c w (.next t.repeatIo) := ite (took h.setPc) (took h)

end State.Ends

end

/-- A return from an interrupt handler writes IFF1 with IFF2 (46_control.md R470). -/
theorem State.returnFromInterrupt_leaves (s : State) :
    s.Leaves { s.cpu with iff1 := s.cpu.iff2 } false s.returnFromInterrupt := by
  have h := (Leaves.refl s false).popPc
  have hiff : s.popPc.cpu.iff2 = s.cpu.iff2 := by rw [h.cpu]
  have hset : s.returnFromInterrupt = s.popPc.setIff s.cpu.iff2 s.cpu.iff2 := by rw [← hiff]; rfl
  rw [hset]
  exact h.setIff

/-! ### Every instruction -/

/-- Every instruction completes and leaves what `State.controlAfter` says: its meaning is a chain of the operations above, in the
order in which they act. -/
theorem exec_ends (i : Instr) (s : State) : s.Ends (s.controlAfter i) (writesF i) (exec i s) := by
  have here {w : Bool} : s.Leaves s.cpu w s := .refl s w
  cases i with
  | nop | noni _ => exact .took here
  | ldRR _ _ | ldRN _ _ => exact .took here.setReg8
  | ldRXYH _ _ | ldRXYL _ _ => exact .took here.setXYReg8
  | ldXYHR _ _ | ldXYLR _ _ | ldXYHN _ _ | ldXYLN _ _ => exact .took here.setIndex
  | ldRMemHL _ => exact .took here.memRead.setReg8
  | ldRMemXYd _ _ _ => exact .took here.readDisp.setReg8
  | ldAMemBC | ldAMemDE | ldAMemNn _ => exact .took here.memRead.setMain.setWz
  | ldMemHLR _ | ldMemHLN _ => exact .took here.memWrite
  | ldMemXYdR _ _ _ | ldMemXYdN _ _ _ => exact .took here.setWz.memWrite
  | ldMemBCA | ldMemDEA | ldMemNnA _ => exact .took here.memWrite.setWz
  | ldRpNn _ _ | incRp _ | decRp _ => exact .took here.setPair
  | ldXYNn _ _ | incXY _ | decXY _ => exact .took here.setIndex
  | ldSPHL | ldSPXY _ => exact .took here.setSp
  | ldHLMemNn _ => exact .took here.memRead16.setMain.setWz
  | ldXYMemNn _ _ => exact .took here.memRead16.setIndex.setWz
  | ldRpMemNn _ _ => exact .took here.memRead16.setPair.setWz
  | ldMemNnHL _ | ldMemNnXY _ _ | ldMemNnRp _ _ => exact .took here.memWrite16.setWz
  | pushRp2 _ | pushXY _ => exact .took here.push
  | popRp2 rp =>
    cases rp with
    | bc | de | hl => exact .took here.pop.setMain
    | af => exact .took here.pop.setMain.writeFlags
  | popXY _ => exact .took here.pop.setIndex
  | exDEHL => exact .took here.setMain
  | exAFAF => exact .took here.setMain.writeFlags.setShadow
  | exx => exact .took here.setMain.setShadow
  | exMemSPHL => exact .took here.exchangeSP.setMain.setWz
  | exMemSPXY _ => exact .took here.exchangeSP.setIndex.setWz
  | ldi | ldd => exact .took here.copyStep
  | ldir | lddr => exact .repeatCopy here.copyStep
  | cpi | cpd => exact .took here.searchStep
  | cpir | cpdr => exact .repeatSearch here.searchStep
  | addAR _ | adcAR _ | subR _ | sbcAR _ | andR _ | xorR _ | orR _ | addAN _ | adcAN _ | subN _ | sbcAN _ | andN _ | xorN _
  | orN _ | addAXYH _ | adcAXYH _ | subXYH _ | sbcAXYH _ | andXYH _ | xorXYH _ | orXYH _ | addAXYL _ | adcAXYL _ | subXYL _
  | sbcAXYL _ | andXYL _ | xorXYL _ | orXYL _ => exact .took here.setMain.writeFlags
  | addAMemHL | adcAMemHL | subMemHL | sbcAMemHL | andMemHL | xorMemHL | orMemHL =>
    exact .took here.memRead.setMain.writeFlags
  | addAMemXYd _ _ | adcAMemXYd _ _ | subMemXYd _ _ | sbcAMemXYd _ _ | andMemXYd _ _ | xorMemXYd _ _ | orMemXYd _ _ =>
    exact .took here.readDisp.setMain.writeFlags
  | cpR _ | cpN _ | cpXYH _ | cpXYL _ => exact .took here.writeFlags
  | cpMemHL => exact .took here.memRead.writeFlags
  | cpMemXYd _ _ => exact .took here.readDisp.writeFlags
  | incR _ | decR _ | rlcR _ | rrcR _ | rlR _ | rrR _ | slaR _ | sraR _ | sllR _ | srlR _ =>
    exact .took here.writeFlags.setReg8
  | incXYH _ | decXYH _ | incXYL _ | decXYL _ => exact .took here.writeFlags.setIndex
  | incMemHL | decMemHL | rlcMemHL | rrcMemHL | rlMemHL | rrMemHL | slaMemHL | sraMemHL | sllMemHL | srlMemHL =>
    exact .took here.memRead.writeFlags.memWrite
  | incMemXYd _ _ | decMemXYd _ _ | rlcMemXYd _ _ | rrcMemXYd _ _ | rlMemXYd _ _ | rrMemXYd _ _ | slaMemXYd _ _
  | sraMemXYd _ _ | sllMemXYd _ _ | srlMemXYd _ _ => exact .took here.readDisp.writeFlags.memWrite
  | rlcMemXYdR _ _ _ | rrcMemXYdR _ _ _ | rlMemXYdR _ _ _ | rrMemXYdR _ _ _ | slaMemXYdR _ _ _ | sraMemXYdR _ _ _
  | sllMemXYdR _ _ _ | srlMemXYdR _ _ _ => exact .took here.readDisp.writeFlags.memWrite.setReg8
  | resR _ _ | setR _ _ => exact .took here.setReg8
  | resMemHL _ | setMemHL _ => exact .took here.memRead.memWrite
  | resMemXYd _ _ _ | setMemXYd _ _ _ => exact .took here.readDisp.memWrite
  | resMemXYdR _ _ _ _ | setMemXYdR _ _ _ _ => exact .took here.readDisp.memWrite.setReg8
  | bitR _ _ => exact .took here.writeFlags
  | bitMemHL _ => exact .took here.memRead.writeFlags
  | bitMemXYd _ _ _ _ => exact .took here.readDisp.writeFlags
  | rld | rrd => exact .took here.rotateDigits
  | daa | cpl | neg _ | rlca | rrca | rla | rra | ldAI | ldAR => exact .took here.setMain.writeFlags
  | ccf | scf => exact .took here.writeFlags
  | addHLRp _ | adcHLRp _ | sbcHLRp _ => exact .took here.setWz.setMain.writeFlags
  | addXYRp _ _ => exact .took here.setWz.setIndex.writeFlags
  | jp _ => exact .took here.jumpTo
  | jpCc _ _ => exact .took (.ite here.jumpTo here.setWz)
  | jr _ => exact .took here.jumpTo
  | jrCc _ _ => exact .ite (.took here.jumpTo) (.took here)
  | djnz _ => exact .ite (.took here.setReg8.jumpTo) (.took here.setReg8)
  | jpHL | jpXY _ => exact .took here.setPc
  | call _ => exact .took here.setWz.push.setPc
  | callCc _ _ => exact .ite (.took here.setWz.push.setPc) (.took here.setWz)
  | ret => exact .took here.popPc
  | retCc _ => exact .ite (.took here.popPc) (.took here)
  | retn _ | reti => exact .took s.returnFromInterrupt_leaves
  | rst _ => exact .took here.enterHandler
  | inAN _ => exact .took here.ioRead.setMain.setWz
  | inC => exact .took here.ioRead.setWz.writeFlags
  | inRC _ => exact .took here.ioRead.setWz.writeFlags.setReg8
  | outNA _ | outCR _ | outC0 => exact .took here.ioWrite.setWz
  | ini | ind => exact .took here.inStep
  | inir | indr => exact .repeatIo here.inStep
  | outi | outd => exact .took here.outStep
  | otir | otdr => exact .repeatIo here.outStep
  | halt | di | ei | im _ | ldIA | ldRA | prefixIgnored _ => exact .took (.withCpu s _ _)

end Sys2Proof.Machine
end

section
/-! SUPPORT. The proofs of O15 and O26: the registers that each instruction leaves alone, the CPU step of each kind, and the ticks
after it. -/

namespace Sys2Proof.Machine

/-! ### The registers beside the general ones -/

/-- Which instructions write which of the registers beside the general ones, as `State.controlAfter` has them. -/
theorem State.controlAfter_keeps (s : State) (i : Instr) :
    (s.controlAfter i).intPending = s.cpu.intPending ∧ (s.controlAfter i).intVec = s.cpu.intVec ∧
    (s.controlAfter i).nmiPending = s.cpu.nmiPending ∧
    (i ≠ .exAFAF → i ≠ .exx → (s.controlAfter i).shadow = s.cpu.shadow) ∧
    (i ≠ .ldIA → (s.controlAfter i).i = s.cpu.i) ∧ (i ≠ .ldRA → (s.controlAfter i).r = s.cpu.r) ∧
    ((∀ y, i ≠ .im y) → (s.controlAfter i).im = s.cpu.im) ∧ (i ≠ .halt → (s.controlAfter i).halted = s.cpu.halted) ∧
    (i ≠ .di → i ≠ .ei → (s.controlAfter i).iff2 = s.cpu.iff2) ∧
    (i ≠ .di → i ≠ .ei → i ≠ .reti → (∀ y, i ≠ .retn y) → (s.controlAfter i).iff1 = s.cpu.iff1) ∧
    (i ≠ .ei → (∀ p, i ≠ .prefixIgnored p) →
      (s.controlAfter i).eiInhibit = s.cpu.eiInhibit ∧ (s.controlAfter i).prefixInhibit = s.cpu.prefixInhibit) := by
  unfold State.controlAfter
  split <;> simp

/-- Settles O26: an instruction leaves the registers of `State.controlAfter`. -/
theorem onlyWrittenBy : Obligations.OnlyWrittenBy := by
  unfold Obligations.OnlyWrittenBy
  intro i s t ht
  obtain ⟨u, hu, h, -⟩ := exec_ends i s
  obtain rfl : u = t := Host.Outcome.next.inj (hu.symm.trans ht)
  obtain ⟨hint, hvec, hnmi, hrest⟩ := s.controlAfter_keeps i
  rw [h.cpu]
  exact ⟨h.cfg, h.clock, h.life, hint, hvec, hnmi, h.flags, hrest⟩

/-! ### The enables and the inhibit bits -/

theorem Cpu.ok_iff {c : Cpu} :
    c.ok = true ↔ (c.iff1 = true → c.iff2 = true) ∧ ¬(c.eiInhibit = true ∧ c.prefixInhibit = true) ∧
      (c.halted = true → c.eiInhibit = false ∧ c.prefixInhibit = false) := by
  simp [Cpu.ok, imp_iff_not_or, and_assoc]

theorem State.Inv.cpu_ok {s : State} (h : s.Inv) : s.cpu.ok = true := Cpu.ok_iff.2 ⟨h.enables, h.inhibits, h.idle⟩

/-- Only the registers beside the general ones decide whether a CPU is one that a machine can have. -/
theorem State.Leaves.cpu_ok {s t : State} {c : Cpu} {w : Bool} (h : s.Leaves c w t) (hc : c.ok = true) : t.cpu.ok = true := by
  rw [h.cpu]
  exact hc

/-- An instruction begins not halted and with the inhibit bits clear, and sets at most one of the three (10_state.md R33, R34). -/
theorem State.controlAfter_ok {s : State} (i : Instr) (hiff : s.cpu.iff1 = true → s.cpu.iff2 = true)
    (hhalted : s.cpu.halted = false) (hei : s.cpu.eiInhibit = false) (hpre : s.cpu.prefixInhibit = false) :
    (s.controlAfter i).ok = true := by
  rw [Cpu.ok_iff]
  unfold State.controlAfter
  split <;> simp [hhalted, hei, hpre] <;> exact hiff

/-! ### The CPU step -/

/-- What a CPU step ends in: memory and devices that fit the configuration, a CPU that a machine can have, at most 23 cycles. -/
structure State.Sound (s : State) : Prop where
  fits : s.fits
  cpu_ok : s.cpu.ok = true
  cycles : s.stepCycles ≤ 23

/-- A CPU step from memory and devices that fit is sound where the registers that it leaves are. -/
theorem State.Ends.sound {s u : State} {c : Cpu} {w : Bool} (h : s.Ends c w (.next u)) (hs : s.fits) (hc : c.ok = true) :
    u.Sound := by
  obtain ⟨t, ht, hl, hcycles⟩ := h
  obtain rfl : u = t := Host.Outcome.next.inj ht
  exact ⟨hl.fits hs, hl.cpu_ok hc, hcycles⟩

/-- The fetch leaves the devices as reading the instruction's bytes does. -/
theorem State.fetched_io (s : State) (i : Instr) : (s.fetched i).io = (State.readBytes i.length s.cpu.pc s).2.io := by
  simp [State.fetched, State.setInhibits, State.setPc]

/-- The fetch only reads memory, and writes the CPU. -/
theorem State.fits.fetched {s : State} (h : s.fits) (i : Instr) : (s.fetched i).fits := by
  have hread := h.readBytes i.length s.cpu.pc
  rw [State.fits, State.readBytes_cfg, State.readBytes_mem, ← State.fetched_io] at hread
  rw [State.fetched_frame]
  exact hread

/-- The NMI acceptance clears HALTED, IFF1 and the inhibit bits, and keeps IFF2 (60_exceptions.md R615). -/
theorem State.acceptNmi_ends (s : State) :
    s.Ends { s.cpu with
      nmiPending := false, iff1 := false, halted := false, r := refreshed s.cpu.r, eiInhibit := false, prefixInhibit := false }
      false (.next s.acceptNmi) :=
  .took (.enterHandler (.withCpu s _ _))

/-- A maskable acceptance in any mode clears HALTED, both enables and the inhibit bits (60_exceptions.md R610 to R614). -/
theorem State.acceptInt_ends {s u : State} (h : s.acceptInt = .next u) :
    s.Ends { s.cpu with
      intPending := false, iff1 := false, iff2 := false, halted := false, r := refreshed s.cpu.r, eiInhibit := false
      prefixInhibit := false } false (.next u) := by
  have begun : s.Leaves _ false s.beginInt := .withCpu s _ _
  unfold State.acceptInt at h
  split at h
  · split at h
    · rw [← h]
      exact .took begun.enterHandler
    · cases h
  · rw [← h]
    exact .took begun.enterHandler
  · rw [← h]
    exact .took begun.push.memRead16.setPc.setWz

/-- A halted idle step clears the inhibit bits (48_cpu_control.md R552). -/
theorem State.haltedIdle_ends (s : State) :
    s.Ends { s.cpu with r := refreshed s.cpu.r, eiInhibit := false, prefixInhibit := false } false (.next s.haltedIdle) :=
  .took (.withCpu s _ _)

/-- Only a machine that is not halted executes an instruction (60_exceptions.md R600). -/
theorem State.halted_of_instruction {s : State} (h : s.stepKind = .instruction) : s.cpu.halted = false := by
  unfold State.stepKind at h
  split_ifs at h with _ _ hh
  exact Bool.eq_false_of_not_eq_true hh

/-- Every CPU step from a state with the invariant is sound, by the kind of the step. -/
theorem cpuStep_sound {s u : State} (hs : s.Inv) (h : cpuStep s = .next u) : u.Sound := by
  obtain ⟨hiff, -, -⟩ := Cpu.ok_iff.1 hs.cpu_ok
  rcases cpuStep_next h with ⟨-, rfl⟩ | ⟨-, hint⟩ | ⟨-, rfl⟩ | ⟨hkind, hexec⟩
  · exact s.acceptNmi_ends.sound hs.fits (by simp [Cpu.ok_iff])
  · exact (State.acceptInt_ends hint).sound hs.fits (by simp [Cpu.ok_iff])
  · exact s.haltedIdle_ends.sound hs.fits (by simpa [Cpu.ok_iff] using hiff)
  · have hhalted := State.halted_of_instruction hkind
    refine (hexec ▸ exec_ends s.nextInstr (s.fetched s.nextInstr)).sound (hs.fits.fetched _) ?_
    rw [State.fetched_frame]
    exact State.controlAfter_ok _ hiff hhalted rfl rfl

/-! ### The machine step -/

/-- Settles O15: the CPU step is sound, the ticks keep it so, and a step that marks an undefined video behaviour is refused. -/
theorem stepKeepsInvariant : Obligations.StepKeepsInvariant := by
  unfold Obligations.StepKeepsInvariant
  intro s t hs ht
  obtain ⟨-, -, u, hu, rfl, hundef⟩ := step_next ht
  obtain ⟨hfits, hok, hcycles⟩ := cpuStep_sound hs hu
  have hticked := hfits.tickDevices
  have hok' : u.tickDevices.cpu.ok = true := by rw [State.tickDevices_frame]; exact hok
  obtain ⟨henables, hinhibits, hidle⟩ := Cpu.ok_iff.1 hok'
  exact {
    configured := hticked.configured
    memory := hticked.memory
    devices := hticked.devices hundef
    together := IoDevices.together_iff.2 hticked.together
    cycles := by rw [State.tickDevices_frame]; exact hcycles
    enables := henables
    inhibits := hinhibits
    idle := hidle }

end Sys2Proof.Machine
end

section
/-! SUPPORT. The proofs of O6 and O13: R through several M1 cycles, the fetch as an equation over the state, and what init leaves. -/

namespace Sys2Proof.Machine

/-! ### The refresh register -/

/-- R after `n` M1 cycles as a number: bit 7 in its place, and the low 7 bits advanced modulo 128 (10_state.md R31). -/
theorem refreshBy_toNat (r : Byte) (n : Nat) : (refreshBy r n).toNat = 128 * (r.toNat / 128) + (r.toNat + n) % 128 := by
  have hlow : (r.toNat + n) % 128 < 2 ^ 7 := Nat.mod_lt _ (by decide)
  have hmask : r.toNat &&& 128 = 2 ^ 7 * (r.toNat / 128) := by
    rw [show (128 : Nat) = 2 ^ 7 from rfl, Nat.and_two_pow, Nat.toNat_testBit]
    omega
  rw [refreshBy, BitVec.toNat_or, BitVec.toNat_and, BitVec.toNat_ofNat, Nat.mod_eq_of_lt (by omega)]
  show (r.toNat &&& 128) ||| _ = _
  rw [hmask, ← Nat.two_pow_add_eq_or_of_lt hlow]

theorem refreshBy_zero (r : Byte) : refreshBy r 0 = r := by
  apply BitVec.eq_of_toNat_eq
  rw [refreshBy_toNat]
  omega

theorem refreshBy_refreshBy (r : Byte) (m n : Nat) : refreshBy (refreshBy r m) n = refreshBy r (m + n) := by
  apply BitVec.eq_of_toNat_eq
  simp only [refreshBy_toNat]
  omega

/-- One refresh update is one M1 cycle's. -/
theorem refreshed_eq_refreshBy : ∀ r : Byte, refreshed r = refreshBy r 1 := by decide +kernel

/-- `n` refresh updates are `n` M1 cycles'. -/
theorem State.refresh_r (s : State) (n : Nat) : (s.refresh n).cpu.r = refreshBy s.cpu.r n := by
  induction n generalizing s with
  | zero => exact (refreshBy_zero _).symm
  | succ n ih =>
    rw [State.refresh, ih, State.setR_r, refreshed_eq_refreshBy, refreshBy_refreshBy, Nat.add_comm]

/-! ### The fetch -/

theorem State.fetched_r (s : State) (i : Instr) : (s.fetched i).cpu.r = refreshBy s.cpu.r i.format.m1Fetches := by
  show (State.refresh _ _).cpu.r = _
  simp [State.refresh_r]

/-- Settles O6: `State.fetched_frame`, with PC and R as numbers. -/
theorem fetchAdvances : Obligations.FetchAdvances := by
  unfold Obligations.FetchAdvances
  intro s i
  have hframe := s.fetched_frame i
  constructor
  · rw [hframe]
    simp [State.fetched_r, BitVec.ofNat_add]
  · rw [← s.fetched_io i]
    exact State.keepsAll_of_eq (by rw [hframe])

/-! ### The reset -/

/-- init answers the state after reset, with the count of draws going on (60_exceptions.md R650; log 8). -/
theorem initMachine_accepted {s : State} {cfg : Config} (dr : ResetDraws) (hlife : s.life ≠ .discarded)
    (hcheck : cfg.check = none) : initMachine s cfg dr = .next { State.initial cfg dr with draws := s.draws } := by
  unfold initMachine
  rw [if_neg hlife, hcheck]

/-- Settles O13: the fields of the state that init answers. -/
theorem resetValues : Obligations.ResetValues := by
  unfold Obligations.ResetValues
  intro s cfg dr hlife hcheck
  refine ⟨_, initMachine_accepted dr hlife hcheck, ?_⟩
  simp [State.initial, Cpu.reset, IoDevices.reset]

end Sys2Proof.Machine
end

section
/-! SUPPORT. The proof of O22: an accepted configuration gives a RAM byte to one address only (20_memory.md R63, R68;
10_state.md R39). -/

namespace Sys2Proof

/-! ### Stretches of keys that are apart -/

theorem apart_iff {p q : Nat × Nat} : apart p q = true ↔ p.1 + p.2 ≤ q.1 ∨ q.1 + q.2 ≤ p.1 := by simp [apart]

theorem allApart_iff_pairwise {parts : List (Nat × Nat)} :
    allApart parts = true ↔ parts.Pairwise fun p q => apart p q = true := by
  induction parts with
  | nil => simp [allApart]
  | cons p rest ih => simp [allApart, ih]

/-! ### Windows: where the address space can show a backing -/

/-- Every region of MEM_MAP, and each backing of each bank as a region at the bank's addresses (20_memory.md R62, R68). -/
def Config.windows (cfg : Config) : List Region :=
  cfg.memMap ++ cfg.banks.flatMap fun bank => bank.backings.map fun bk => ⟨bank.start, bank.length, bk⟩

/-- The windows show exactly the backings that the check looks at. -/
theorem Config.backings_eq_windows (cfg : Config) : cfg.backings = cfg.windows.map fun g => (g.backing, g.length) := by
  simp [Config.backings, Config.windows, List.map_flatMap, Function.comp_def]

/-- Through the region the address reaches the RAM key (20_memory.md R66). -/
def Region.ShowsRam (g : Region) (a key : Nat) : Prop :=
  ∃ base, g.backing = .ram base ∧ g.start ≤ a ∧ a < g.start + g.length ∧ key = base + (a - g.start)

/-- A RAM key that both regions reach, they reach from one address. -/
def Region.RamByteOnce (g g' : Region) : Prop := ∀ a b key, g.ShowsRam a key → g'.ShowsRam b key → a = b

theorem Region.ramByteOnce_self (g : Region) : g.RamByteOnce g := by
  rintro a b key ⟨base, hbase, hstart, -, hkey⟩ ⟨base', hbase', hstart', -, hkey'⟩
  have hsame : base = base' := Backing.ram.inj (hbase.symm.trans hbase')
  omega

theorem Region.RamByteOnce.symm {g g' : Region} (h : g.RamByteOnce g') : g'.RamByteOnce g :=
  fun a b key ha hb => (h b a key hb ha).symm

/-- Regions whose RAM backings are apart reach no key together. -/
theorem Region.ramByteOnce_of_apart {g g' : Region}
    (h : ∀ base base', g.backing = .ram base → g'.backing = .ram base' → apart (base, g.length) (base', g'.length) = true) :
    g.RamByteOnce g' := by
  rintro a b key ⟨base, hbase, hstart, hlast, hkey⟩ ⟨base', hbase', hstart', hlast', hkey'⟩
  have hapart := apart_iff.1 (h base base' hbase hbase')
  dsimp only at hapart
  omega

/-- In a configuration whose RAM backings are apart a RAM key is reached from one address only (10_state.md R39). -/
theorem Config.windows_ramByteOnce {cfg : Config} (h : cfg.ramOk = true) {g g' : Region} (hg : g ∈ cfg.windows)
    (hg' : g' ∈ cfg.windows) : g.RamByteOnce g' := by
  have hpairs : cfg.windows.Pairwise Region.RamByteOnce := by
    have hparts := allApart_iff_pairwise.1 h
    rw [Config.ramParts, Config.backings_eq_windows, List.pairwise_filterMap, List.pairwise_map] at hparts
    refine hparts.imp fun hap => Region.ramByteOnce_of_apart fun base base' hbase hbase' => ?_
    exact hap (base, _) (by rw [hbase]) (base', _) (by rw [hbase'])
  have : Std.Symm Region.RamByteOnce := ⟨fun _ _ => Region.RamByteOnce.symm⟩
  exact hpairs.forall_of_forall (fun g _ => g.ramByteOnce_self) hg hg'

namespace Machine

/-! ### Where a RAM byte of the bus comes from -/

/-- A RAM key of a backing is its base and the offset. -/
theorem backingTarget_eq_ram {bk : Backing} {off key : Nat} :
    backingTarget bk off = .ram key ↔ ∃ base, bk = .ram base ∧ key = base + off := by
  cases bk with
  | ram base => simp [backingTarget, eq_comm]
  | io device => cases device <;> simp [backingTarget]
  | rom _ | unmapped => simp [backingTarget]

theorem showsRam_of_regionTarget {table : List Region} {a key : Nat} (h : regionTarget table a = .ram key) :
    ∃ g ∈ table, g.ShowsRam a key := by
  induction table with
  | nil => cases h
  | cons g rest ih =>
    unfold regionTarget at h
    split at h
    · next hin =>
      obtain ⟨base, hbase, hkey⟩ := backingTarget_eq_ram.1 h
      exact ⟨g, List.mem_cons_self, base, hbase, hin.1, hin.2, hkey⟩
    · obtain ⟨g', hg', hshows⟩ := ih h
      exact ⟨g', List.mem_cons_of_mem g hg', hshows⟩

theorem showsRam_of_bankTarget {banks : List Bank} {js : List Nat} {a key : Nat} (h : bankTarget banks js a = some (.ram key)) :
    ∃ bank ∈ banks, ∃ bk ∈ bank.backings, Region.ShowsRam ⟨bank.start, bank.length, bk⟩ a key := by
  induction banks generalizing js with
  | nil => cases h
  | cons bank banks ih =>
    cases js with
    | nil => cases h
    | cons j js =>
      unfold bankTarget at h
      split at h
      · next hin =>
        obtain ⟨base, hbase, hkey⟩ := backingTarget_eq_ram.1 (Option.some.inj h)
        by_cases hj : j < bank.backings.length
        · rw [List.getD_eq_getElem _ _ hj] at hbase
          exact ⟨bank, List.mem_cons_self, _, List.getElem_mem hj, base, hbase, hin.1, hin.2, hkey⟩
        · rw [List.getD_eq_default _ _ (Nat.le_of_not_lt hj)] at hbase
          cases hbase
      · obtain ⟨bank', hbank', hshows⟩ := ih h
        exact ⟨bank', List.mem_cons_of_mem bank hbank', hshows⟩

/-- A MEM address that leads to RAM reaches it through a window of the configuration, whatever the banks select. -/
theorem State.showsRam_of_memTarget {s : State} {a : Word} {key : Nat} (h : s.memTarget a = .ram key) :
    ∃ g ∈ s.cfg.windows, g.ShowsRam a.toNat key := by
  unfold State.memTarget at h
  cases hbank : bankTarget s.cfg.banks s.mem.bankSel a.toNat with
  | none =>
    rw [hbank] at h
    obtain ⟨g, hg, hshows⟩ := showsRam_of_regionTarget h
    exact ⟨g, List.mem_append_left _ hg, hshows⟩
  | some target =>
    rw [hbank] at h
    obtain rfl : target = .ram key := h
    obtain ⟨bank, hb, bk, hbk, hshows⟩ := showsRam_of_bankTarget hbank
    exact ⟨_, List.mem_append_right _ (List.mem_flatMap.2 ⟨bank, hb, List.mem_map_of_mem hbk⟩), hshows⟩

/-- Settles O22: both addresses reach the key through windows of the configuration, and no two of them share a RAM byte. -/
theorem ramBytesApart : Obligations.RamBytesApart := by
  unfold Obligations.RamBytesApart
  intro s a b key hcheck ha hb
  obtain ⟨-, -, -, hram, -, -⟩ := Config.check_eq_none.1 hcheck
  obtain ⟨g, hg, hga⟩ := State.showsRam_of_memTarget ha
  obtain ⟨g', hg', hgb⟩ := State.showsRam_of_memTarget hb
  exact BitVec.eq_of_toNat_eq (Config.windows_ramByteOnce hram hg hg' _ _ key hga hgb)

end Machine

end Sys2Proof
end

section
/-! SUPPORT. The proofs of O20 and O21: the default map region by region, a read after a write at one address, and each device's
reads and writes as updates of the state (20_memory.md R65 to R77; 60_exceptions.md R620 to R646). -/

namespace Sys2Proof.Machine

/-! ### The default map -/

/-- The default MEM_MAP: ROM, RAM, and nothing above (20_memory.md R65). -/
theorem regionTarget_defaultMemMap (a : Nat) :
    regionTarget Config.defaultMemMap a = if a < 0x4000 then .rom a else if a < 0x8000 then .ram a else .unmapped := by
  simp only [Config.defaultMemMap, regionTarget, backingTarget]
  split_ifs <;> grind

/-- The default IO_MAP: the devices' ports, with nothing between them (20_memory.md R77). -/
theorem regionTarget_defaultIoMap (p : Nat) :
    regionTarget Config.defaultIoMap p =
      if 0x80 ≤ p ∧ p ≤ 0x87 then .device (.kbd (p - 0x80))
      else if p = 0x8F then .device (.video 0)
      else if p = 0xAF then .device (.pio 0)
      else if p = 0xCF then .device (.video 1)
      else .unmapped := by
  simp only [Config.defaultIoMap, regionTarget, backingTarget]
  split_ifs <;> grind

/-- Under the default mask only the low byte of a port counts (20_memory.md R74). -/
theorem and_ioDecodeMask_default (port : Word) : (port &&& Config.default.ioDecodeMask).toNat = port.toNat % 256 := by
  rw [BitVec.toNat_and]
  exact Nat.and_two_pow_sub_one_eq_mod port.toNat 8

/-- Settles O20: no bank stands before the default MEM_MAP, and a port is masked before IO_MAP is looked at. -/
theorem defaultMap : Obligations.DefaultMap := by
  unfold Obligations.DefaultMap
  intro s hcfg
  constructor
  · intro a
    unfold State.memTarget
    rw [hcfg]
    exact regionTarget_defaultMemMap a.toNat
  · intro port
    unfold State.ioTarget
    rw [hcfg, and_ioDecodeMask_default]
    exact regionTarget_defaultIoMap _

/-! ### Accesses by the kind of the target -/

section
variable {s : State} {a : Word}

theorem State.memRead_of_target {target : BusTarget} (h : s.memTarget a = target) : s.memRead a = s.readTarget target := by
  rw [State.memRead, h]

theorem State.memWrite_of_target {target : BusTarget} (h : s.memTarget a = target) (v : Byte) :
    s.memWrite a v = s.writeTarget target v := by
  rw [State.memWrite, h]

theorem State.ioRead_of_target {target : BusTarget} (h : s.ioTarget a = target) : s.ioRead a = s.readTarget target := by
  rw [State.ioRead, h]

theorem State.ioWrite_of_target {target : BusTarget} (h : s.ioTarget a = target) (v : Byte) :
    s.ioWrite a v = s.writeTarget target v := by
  rw [State.ioWrite, h]

/-- RAM holds what was last written, and a write touches no other byte (20_memory.md R66, R67). -/
theorem State.ram_access {key : Nat} (v : Byte) (hwf : s.mem.ram.wf = true) (h : s.memTarget a = .ram key) :
    s.memRead a = (s.mem.ram.read key, s) ∧ (s.memWrite a v).memRead a = (v, s.memWrite a v) ∧
      ∀ key', key' ≠ key → (s.memWrite a v).mem.ram.read key' = s.mem.ram.read key' := by
  have hwrite : s.memWrite a v = s.writeRam key v := State.memWrite_of_target h v
  have hread : ∀ j, (s.writeRam key v).mem.ram.read j = if j = key then v else s.mem.ram.read j :=
    fun j => Memory.read_write key v j hwf
  have htarget : (s.writeRam key v).memTarget a = .ram key := (State.memTarget_congr (s := s) rfl rfl a).trans h
  refine ⟨State.memRead_of_target h, ?_, fun j hj => ?_⟩
  · rw [hwrite, State.memRead_of_target htarget]
    exact Prod.ext ((hread key).trans (if_pos rfl)) rfl
  · rw [hwrite, hread, if_neg hj]

end

/-! ### The devices -/

/-- A column of the byte that the keyboard gives: 0 for a key held down (60_exceptions.md R630; log 18). -/
theorem Keyboard.columns_getLsbD (k : Keyboard) (row : Nat) {j : Nat} (hj : j < 8) :
    (k.columns row).getLsbD j = !(k.matrix.getD row 0).getLsbD j := by
  simp [Keyboard.columns, hj]

theorem State.devRead_kbd (s : State) (row : Nat) : s.devRead (.kbd row) =
    (s.io.kbd.columns row, { s with io := { s.io with kbd := { s.io.kbd with selRow := row } } }) := rfl

theorem Video.calling_eq (v : Video) (cfg : Config) (call : VideoCall) :
    v.calling cfg call = { v with undef := v.undef || decide (call ∈ cfg.videoUndefined) } := by
  simp [Video.calling]

theorem State.devRead_video (s : State) (k : Nat) : s.devRead (.video k) =
    ((Config.videoRead k s.io.video.regs).1, { s with io := { s.io with video := { s.io.video with
      regs := (Config.videoRead k s.io.video.regs).2
      undef := s.io.video.undef || decide (VideoCall.read k ∈ s.cfg.videoUndefined) } } }) := by
  rw [State.devRead, State.videoRead, Video.calling_eq]
  rfl

/-- A write to the keyboard changes no device; the bank selection may change with it (60_exceptions.md R631; 20_memory.md R68). -/
theorem State.devWrite_kbd (s : State) (row : Nat) (v : Byte) : s.devWrite (.kbd row) v =
    { s with mem := { s.mem with bankSel := selectBanks (.kbd row) v 0 s.cfg.banks s.mem.bankSel } } := rfl

theorem State.devWrite_video (s : State) (k : Nat) (v : Byte) : s.devWrite (.video k) v = { s with
    mem := { s.mem with bankSel := selectBanks (.video k) v 0 s.cfg.banks s.mem.bankSel }
    io := { s.io with video := { s.io.video with
      regs := Config.videoWrite k v s.io.video.regs
      undef := s.io.video.undef || decide (VideoCall.write k ∈ s.cfg.videoUndefined) } } } := by
  rw [State.devWrite, State.devEffect, Video.calling_eq]
  rfl

theorem State.devWrite_pio (s : State) (k : Nat) (v : Byte) : s.devWrite (.pio k) v = { s with
    mem := { s.mem with bankSel := selectBanks (.pio k) v 0 s.cfg.banks s.mem.bankSel }
    io := { s.io with pio := ⟨s.io.pio.outLatch.set k v⟩ } } := rfl

/-- Settles O21: each access goes by its target, and each device's read and write is an update of the state. -/
theorem busAccess : Obligations.BusAccess := by
  unfold Obligations.BusAccess
  intro s a v hwf
  refine ⟨fun key h => State.ram_access v hwf h,
    fun off h => ⟨State.memRead_of_target h, State.memWrite_of_target h v⟩,
    fun h => ⟨State.memRead_of_target h, State.memWrite_of_target h v⟩,
    fun reg h => ⟨State.memRead_of_target h, State.memWrite_of_target h v⟩,
    fun reg h => ⟨State.ioRead_of_target h, State.ioWrite_of_target h v⟩,
    fun h => ⟨State.ioRead_of_target h, State.ioWrite_of_target h v⟩,
    fun row => ⟨by rw [State.devRead_kbd], fun j hj => ?columns⟩,
    fun k => ⟨by rw [State.devRead_video], by rw [State.devRead_video]⟩,
    fun k => rfl,
    fun reg => ⟨selectBanks reg v 0 s.cfg.banks s.mem.bankSel, ?effect, selectBanks_length .., fun k j bank hbank hsel => ?select⟩⟩
  case columns =>
    rw [State.devRead_kbd]
    exact s.io.kbd.columns_getLsbD row hj
  case effect =>
    cases reg with
    | kbd row => exact s.devWrite_kbd row v
    | video k => exact s.devWrite_video k v
    | pio k => exact s.devWrite_pio k v
  case select =>
    have hselect := selectBanks_getElem? reg v 0 hbank hsel
    rwa [Nat.zero_add] at hselect

end Sys2Proof.Machine
end

section
/-! SUPPORT. The proofs of O55 and O56: what a port access leaves, the flags of a byte read, and the instructions IN and OUT that
are no block instructions (20_memory.md R73; 47_io.md R500 to R505). -/

namespace Sys2Proof.Machine

/-! ### What a write to a port leaves -/

/-- No port of an accepted configuration leads to RAM (20_memory.md R75). -/
theorem State.ioTarget_ne_ram {s : State} (h : s.cfg.check = none) (port : Word) (key : Nat) : s.ioTarget port ≠ .ram key := by
  intro hram
  obtain ⟨-, hio, -⟩ := Config.check_eq_none.1 h
  simp only [Config.ioMapOk, Bool.and_eq_true, List.all_eq_true] at hio
  obtain ⟨g, hg, base, hbase, -⟩ := showsRam_of_regionTarget hram
  obtain ⟨hkind, -⟩ := hio.2 g hg
  rw [hbase] at hkind
  cases hkind

/-- A write to a port leaves RAM alone (20_memory.md R76). -/
theorem State.ioWrite_ram {s : State} (h : s.cfg.check = none) (port : Word) (v : Byte) :
    (s.ioWrite port v).mem.ram = s.mem.ram := by
  unfold State.ioWrite
  cases htarget : s.ioTarget port with
  | ram key => exact absurd htarget (State.ioTarget_ne_ram h port key)
  | device reg => cases reg <;> rfl
  | rom _ | unmapped => rfl

/-- A port written, and then the CPU and the cycles only: one byte went to the port. -/
theorem State.outs_of_ioWrite {s t : State} {port : Word} {v : Byte} (hcfg : t.cfg = s.cfg) (hclock : t.clock = s.clock)
    (hlife : t.life = s.life) (hmem : t.mem = (s.ioWrite port v).mem) (hio : t.io = (s.ioWrite port v).io) :
    s.Outs s.io port v t where
  cfg := hcfg
  clock := hclock
  life := hlife
  mem := hmem
  io := hio
  ram hcheck := by rw [hmem, State.ioWrite_ram hcheck]
  bytes hcheck hbank := State.byteAt_congr hcfg <|
    show (⟨t.mem.ram, t.mem.bankSel⟩ : MemState) = s.mem by rw [hbank, hmem, State.ioWrite_ram hcheck]

/-! ### The flags of a byte -/

theorem parity_eq_evenOnes : ∀ v : Byte, parity v = evenOnes v := by decide +kernel

theorem getLsbD_seven_eq_neg (v : Byte) : v.getLsbD 7 = decide (v.toInt < 0) := v.msb_eq_toInt

/-- The flags that `writeFlags` leaves of SZXYP (00_scope.md R14). -/
theorem State.writeFlags_szxyp (s : State) (v : Byte) (h c : Bool) :
    (s.writeFlags (szxyp v h c)).flagsAre
      ⟨decide (v.toInt < 0), v == 0, h, evenOnes v, false, c, v.getLsbD 5, v.getLsbD 3⟩ := by
  rw [← getLsbD_seven_eq_neg, ← parity_eq_evenOnes]
  exact s.writeFlags_flagsAre ..

/-! ### OUT -/

/-- Every OUT writes the byte to the port, then WZ (47_io.md R501, R504, R505). -/
theorem exec_of_outOf {s : State} {i : Instr} {port wz : Word} {v : Byte} {cycles : Nat}
    (h : s.outOf i = some (port, v, wz, cycles)) : exec i s = .next (((s.ioWrite port v).setWz wz).took cycles) := by
  unfold State.outOf at h
  split at h <;> cases h <;> rfl

/-- Settles O56, by `exec_of_outOf`. -/
theorem outputs : Obligations.Outputs := by
  unfold Obligations.Outputs
  intro i port v wz cycles s h
  refine ⟨_, exec_of_outOf h, rfl, ?_, ?_⟩
  · show { (s.ioWrite port v).cpu with wz := wz } = { s.cpu with wz := wz }
    rw [State.ioWrite_cpu]
  · exact State.outs_of_ioWrite (by simp) (by simp) (by simp) rfl rfl

/-! ### IN -/

/-- A port read with WZ written, and F where the instruction writes flags (47_io.md R502). -/
def State.portRead (s : State) (port wz : Word) (flags : Bool) : State :=
  if flags then ((s.ioRead port).2.setWz wz).writeFlags (szxyp (s.ioRead port).1 false (flagC s.f))
  else (s.ioRead port).2.setWz wz

/-- The byte of a port stored in the register that an IN names, if it names one (47_io.md R500, R502, R503). -/
def State.storeIn (s : State) (v : Byte) : Option Reg8 → State
  | some r => s.setReg8 r v
  | none => s

/-- Every IN reads the port, writes WZ and F, and stores the byte (47_io.md R500, R502, R503). -/
theorem exec_of_inOf {s : State} {i : Instr} {dst : Option Reg8} {port wz : Word} {flags : Bool} {cycles : Nat}
    (h : s.inOf i = some (dst, port, wz, flags, cycles)) :
    exec i s = .next (((s.portRead port wz flags).storeIn (s.ioRead port).1 dst).took cycles) := by
  unfold State.inOf at h
  split at h <;> cases h <;> rfl

theorem State.storeIn_state (s : State) (v : Byte) (dst : Option Reg8) :
    s.storeIn v dst = s.setMain (s.storeIn v dst).cpu.main := by
  cases dst <;> rfl

@[simp] theorem State.storeIn_f (s : State) (v : Byte) (dst : Option Reg8) :
    (s.storeIn v dst).cpu.main.f = s.cpu.main.f := by
  cases dst with
  | some r => exact RegSet.put_f ..
  | none => rfl

theorem State.storeIn_reg8 (s : State) (v : Byte) (dst : Option Reg8) (q : Reg8) :
    (s.storeIn v dst).reg8 q = if dst = some q then v else s.reg8 q := by
  cases dst with
  | some r => simp [State.storeIn, RegSet.get_put, eq_comm]
  | none => rfl

section
variable (s : State) (port wz : Word) (flags : Bool)

/-- Only F, WZ, the devices and the count of draws change. -/
theorem State.portRead_state : s.portRead port wz flags = { s with
    cpu := { s.cpu with main := { s.cpu.main with f := (s.portRead port wz flags).f }, wz := wz }
    io := (s.ioRead port).2.io
    draws := (s.portRead port wz flags).draws } := by
  have hread : (s.ioRead port).2.setWz wz = { s with
      cpu := { s.cpu with wz := wz }, io := (s.ioRead port).2.io, draws := (s.ioRead port).2.draws } := by
    conv => lhs; rw [State.ioRead_state]
    rfl
  unfold State.portRead
  rw [hread]
  cases flags with
  | true => exact State.writeFlags_state ..
  | false => rfl

/-- The byte gives the flags of R502, and C is kept; no F is written otherwise (47_io.md R500, R502). -/
theorem State.portRead_flags :
    if flags then (s.portRead port wz flags).flagsAre
      ⟨decide ((s.ioRead port).1.toInt < 0), (s.ioRead port).1 == 0, false, evenOnes (s.ioRead port).1, false, flagC s.f,
        (s.ioRead port).1.getLsbD 5, (s.ioRead port).1.getLsbD 3⟩
    else (s.portRead port wz flags).f = s.f := by
  cases flags with
  | true => exact State.writeFlags_szxyp ..
  | false => simp [State.portRead]

theorem State.portRead_reg8 (q : Reg8) : (s.portRead port wz flags).reg8 q = s.reg8 q := by
  rw [State.portRead_state]
  cases q <;> rfl

end

/-- Settles O55: by `exec_of_inOf` the port read gives F and WZ, and the store only the register named. -/
theorem inputs : Obligations.Inputs := by
  unfold Obligations.Inputs
  intro i dst port wz flags cycles s h
  refine ⟨_, exec_of_inOf h, rfl, fun r => ?reg, ?flags, ?cpu, ?frame⟩
  case reg =>
    rw [← s.portRead_reg8 port wz flags]
    exact State.storeIn_reg8 ..
  case flags =>
    have hflags := s.portRead_flags port wz flags
    cases flags with
    | true => exact State.flagsAre_congr (State.storeIn_f ..) (by rw [State.storeIn_state]; rfl) hflags
    | false => simpa using hflags
  case cpu =>
    rw [State.storeIn_state, State.portRead_state]
    rfl
  case frame =>
    rw [State.storeIn_state, State.portRead_state]
    exact State.keepsAll_of_eq rfl

end Sys2Proof.Machine
end

section
/-! SUPPORT. For O1 and O2: an opcode byte as its fields, and that the bytes the decoder reads begin with the encoding of the
instruction it answers, map by map (30_encoding.md R100 to R112). -/

namespace Sys2Proof

/-! ### The fields of an opcode byte -/

/-- The values of a field of two bits, as cases. -/
theorem twoBits_cases {P : BitVec 2 → Prop} (zero : P 0) (one : P 1) (two : P 2) (three : P 3) (x : BitVec 2) : P x := by
  match x with
  | 0 => exact zero
  | 1 => exact one
  | 2 => exact two
  | 3 => exact three

/-- The values of a field of three bits, as cases. -/
theorem threeBits_cases {P : BitVec 3 → Prop} (zero : P 0) (one : P 1) (two : P 2) (three : P 3) (four : P 4)
    (five : P 5) (six : P 6) (seven : P 7) (y : BitVec 3) : P y := by
  match y with
  | 0 => exact zero
  | 1 => exact one
  | 2 => exact two
  | 3 => exact three
  | 4 => exact four
  | 5 => exact five
  | 6 => exact six
  | 7 => exact seven

section
variable (x : BitVec 2) (y z : BitVec 3)

@[simp] theorem xField_append : xField (x ++ y ++ z) = x := by decide +revert
@[simp] theorem yField_append : yField (x ++ y ++ z) = y := by decide +revert
@[simp] theorem zField_append : zField (x ++ y ++ z) = z := BitVec.extractLsb'_append_eq_right

end

/-- An opcode byte is x, y and z (30_encoding.md R101). -/
theorem exists_fields (op : Byte) : ∃ (x : BitVec 2) (y z : BitVec 3), op = x ++ y ++ z :=
  ⟨xField op, yField op, zField op, by decide +revert⟩

@[simp] theorem decodeReg8_code (r : Reg8) : decodeReg8 r.code = some r := by cases r <;> rfl
@[simp] theorem decodeReg8_memory : decodeReg8 0b110#3 = none := rfl

/-! ### The maps by the first byte -/

/-- An opcode of the unprefixed map, and no prefix byte (30_encoding.md R105). -/
def plainOpcode (op : Byte) : Bool := op != 0xCB && op != 0xED && op != 0xDD && op != 0xFD

theorem firstByte_cases (b0 : Byte) :
    b0 = 0xCB ∨ b0 = 0xED ∨ (∃ p : IndexReg, b0 = p.prefixByte) ∨ plainOpcode b0 = true := by
  by_cases hcb : b0 = 0xCB
  · exact .inl hcb
  by_cases hed : b0 = 0xED
  · exact .inr (.inl hed)
  by_cases hdd : b0 = 0xDD
  · exact .inr (.inr (.inl ⟨.ix, hdd⟩))
  by_cases hfd : b0 = 0xFD
  · exact .inr (.inr (.inl ⟨.iy, hfd⟩))
  have hplain : plainOpcode b0 = true := by
    simp only [plainOpcode, Bool.and_eq_true, bne_iff_ne]
    exact ⟨⟨⟨hcb, hed⟩, hdd⟩, hfd⟩
  exact .inr (.inr (.inr hplain))

theorem decodeBytes_index (p : IndexReg) (b1 b2 b3 : Byte) : decodeBytes p.prefixByte b1 b2 b3 = decodeXY p b1 b2 b3 := by
  cases p <;> rfl

theorem decodeBytes_xycb (p : IndexReg) (d op : Byte) : decodeBytes p.prefixByte 0xCB d op = decodeXYCB p d op :=
  decodeBytes_index p 0xCB d op

theorem decodeBytes_plain {op : Byte} (b1 b2 b3 : Byte) (h : plainOpcode op = true) :
    decodeBytes op b1 b2 b3 = decodeMain op b1 (joinBytes b2 b1) := by
  unfold decodeBytes
  split
  case h_5 => rfl
  all_goals cases h

theorem prefixByte_inj {p q : IndexReg} (h : p.prefixByte = q.prefixByte) : p = q := by
  cases p <;> cases q <;> trivial

/-! ### The bytes that an instruction is read from -/

theorem encode_length (i : Instr) : (encode i).length = i.length := by cases i <;> rfl

/-- The instruction is well formed and the bytes begin with its encoding. -/
def Instr.Begins (i : Instr) (bs : List Byte) : Prop := i.wf = true ∧ encode i <+: bs

theorem Instr.Begins.append {i : Instr} {bs : List Byte} (h : i.Begins bs) (cs : List Byte) : i.Begins (bs ++ cs) :=
  ⟨h.1, h.2.trans (List.prefix_append bs cs)⟩

theorem joinBytes_littleEndian (h l : Byte) : [lo (joinBytes h l), hi (joinBytes h l)] = [l, h] := by
  rw [Machine.lo_joinBytes, Machine.hi_joinBytes]

theorem decodeX0_begins (y z : BitVec 3) (nn : Word) :
    (decodeX0 (0b00#2 ++ y ++ z) (lo nn) nn).Begins [0b00#2 ++ y ++ z, lo nn, hi nn] := by
  cases z using threeBits_cases <;> cases y using threeBits_cases <;> exact ⟨rfl, _, rfl⟩

theorem decodeX1_begins (y z : BitVec 3) : (decodeX1 (0b01#2 ++ y ++ z)).Begins [0b01#2 ++ y ++ z] := by
  cases z using threeBits_cases <;> cases y using threeBits_cases <;> exact ⟨rfl, _, rfl⟩

/-- The four prefix bytes are z = 3, y = 1 and z = 5, y = 3, 5, 7. -/
theorem decodeX3_begins (y z : BitVec 3) (nn : Word) (h : plainOpcode (0b11#2 ++ y ++ z) = true) :
    (decodeX3 (0b11#2 ++ y ++ z) (lo nn) nn).Begins [0b11#2 ++ y ++ z, lo nn, hi nn] := by
  cases z using threeBits_cases with
  | three =>
    cases y using threeBits_cases with
    | one => cases h
    | _ => exact ⟨rfl, _, rfl⟩
  | five =>
    cases y using threeBits_cases with
    | three | five | seven => cases h
    | _ => exact ⟨rfl, _, rfl⟩
  | _ => cases y using threeBits_cases <;> exact ⟨rfl, _, rfl⟩

theorem decodeMain_begins (op : Byte) (nn : Word) (h : plainOpcode op = true) :
    (decodeMain op (lo nn) nn).Begins [op, lo nn, hi nn] := by
  obtain ⟨x, y, z, rfl⟩ := exists_fields op
  unfold decodeMain
  rw [xField_append, yField_append, zField_append]
  cases x using twoBits_cases with
  | zero => exact decodeX0_begins y z nn
  | one => exact (decodeX1_begins y z).append _
  | two => cases z using threeBits_cases <;> cases y using threeBits_cases <;> exact ⟨rfl, _, rfl⟩
  | three => exact decodeX3_begins y z nn h

/-- The rotates and shifts are one instruction for each y; BIT, RES and SET have y as an operand. -/
theorem decodeCB_begins (op : Byte) : (decodeCB op).Begins [0xCB, op] := by
  obtain ⟨x, y, z, rfl⟩ := exists_fields op
  unfold decodeCB
  rw [xField_append, yField_append, zField_append]
  cases x using twoBits_cases with
  | zero => cases z using threeBits_cases <;> cases y using threeBits_cases <;> exact ⟨rfl, _, rfl⟩
  | one | two | three => cases z using threeBits_cases <;> exact ⟨rfl, _, rfl⟩

/-- The quarters x = 0 and x = 3 of the ED map are NONI (30_encoding.md R108). -/
theorem isNoni_outer : ∀ y z : BitVec 3, isNoni (0b00#2 ++ y ++ z) = true ∧ isNoni (0b11#2 ++ y ++ z) = true := by
  decide

theorem decodeED_begins (op : Byte) (nn : Word) : (decodeED op nn).Begins [0xED, op, lo nn, hi nn] := by
  obtain ⟨x, y, z, rfl⟩ := exists_fields op
  unfold decodeED
  rw [xField_append]
  cases x using twoBits_cases with
  | zero => exact ⟨(isNoni_outer y z).1, _, rfl⟩
  | three => exact ⟨(isNoni_outer y z).2, _, rfl⟩
  | one | two => cases z using threeBits_cases <;> cases y using threeBits_cases <;> exact ⟨rfl, _, rfl⟩

theorem decodeXYCB_begins (p : IndexReg) (d op : Byte) : (decodeXYCB p d op).Begins [p.prefixByte, 0xCB, d, op] := by
  obtain ⟨x, y, z, rfl⟩ := exists_fields op
  unfold decodeXYCB
  rw [xField_append, yField_append, zField_append]
  cases x using twoBits_cases with
  | zero => cases z using threeBits_cases <;> cases y using threeBits_cases <;> exact ⟨rfl, _, rfl⟩
  | one | two | three => cases z using threeBits_cases <;> exact ⟨rfl, _, rfl⟩

/-- Three instructions have a word operand, whose bytes are joined by the decoder and parted by the encoder. -/
theorem decodeXY_begins (p : IndexReg) (op b2 b3 : Byte) : (decodeXY p op b2 b3).Begins [p.prefixByte, op, b2, b3] := by
  have hword (opcode : Byte) : [p.prefixByte, opcode, lo (joinBytes b3 b2), hi (joinBytes b3 b2)] =
      [p.prefixByte, opcode, b2, b3] := congrArg ([p.prefixByte, opcode] ++ ·) (joinBytes_littleEndian b3 b2)
  obtain ⟨x, y, z, rfl⟩ := exists_fields op
  cases x using twoBits_cases with
  | zero =>
    cases z using threeBits_cases with
    | one =>
      cases y using threeBits_cases with
      | four => exact ⟨rfl, [], hword 0x21⟩
      | _ => exact ⟨rfl, _, rfl⟩
    | two =>
      cases y using threeBits_cases with
      | four => exact ⟨rfl, [], hword 0x22⟩
      | five => exact ⟨rfl, [], hword 0x2A⟩
      | _ => exact ⟨rfl, _, rfl⟩
    | _ => cases y using threeBits_cases <;> exact ⟨rfl, _, rfl⟩
  | one | two => cases z using threeBits_cases <;> cases y using threeBits_cases <;> exact ⟨rfl, _, rfl⟩
  | three =>
    cases z using threeBits_cases with
    | three =>
      cases y using threeBits_cases with
      | one => exact decodeXYCB_begins p b2 b3
      | _ => exact ⟨rfl, _, rfl⟩
    | _ => cases y using threeBits_cases <;> exact ⟨rfl, _, rfl⟩

/-- Four bytes begin with the encoding of the instruction that they decode to. -/
theorem decodeBytes_begins (b0 b1 b2 b3 : Byte) : (decodeBytes b0 b1 b2 b3).Begins [b0, b1, b2, b3] := by
  obtain rfl | rfl | ⟨p, rfl⟩ | hplain := firstByte_cases b0
  · exact (decodeCB_begins b1).append [b2, b3]
  · have h := decodeED_begins b1 (joinBytes b3 b2)
    rwa [Machine.lo_joinBytes, Machine.hi_joinBytes] at h
  · rw [decodeBytes_index]
    exact decodeXY_begins p b1 b2 b3
  · have h := decodeMain_begins b0 (joinBytes b2 b1) hplain
    rw [Machine.lo_joinBytes, Machine.hi_joinBytes] at h
    rw [decodeBytes_plain b1 b2 b3 hplain]
    exact h.append [b3]

end Sys2Proof
end

section
/-! SUPPORT. For O1 and O3: what the opcode table says of an instruction is told by the opcode bytes, whatever the operand bytes
are (30_encoding.md R115); and with that, which opcodes leave an index prefix ignored (R109, R111). -/

namespace Sys2Proof

/-- What the opcode table says of an instruction: its name, its format and its cycle counts. -/
def Instr.entry (i : Instr) : String × Format × List Nat := (i.mnemonic, i.format, i.tableCycles)

section
variable (op n n' : Byte) (nn nn' : Word)

theorem decodeX0_entry : (decodeX0 op n nn).entry = (decodeX0 op n' nn').entry := by
  unfold decodeX0
  split
  · split <;> rfl
  · split <;> rfl
  · split <;> rfl
  · rfl
  · rfl
  · rfl
  · split <;> rfl
  · rfl

theorem decodeX3_entry : (decodeX3 op n nn).entry = (decodeX3 op n' nn').entry := by
  unfold decodeX3
  split
  · rfl
  · rfl
  · rfl
  · split <;> rfl
  · rfl
  · split <;> rfl
  · unfold decodeAluN
    split <;> rfl
  · rfl

theorem decodeMain_entry : (decodeMain op n nn).entry = (decodeMain op n' nn').entry := by
  unfold decodeMain
  split
  · exact decodeX0_entry op n n' nn nn'
  · rfl
  · rfl
  · exact decodeX3_entry op n n' nn nn'

theorem decodeED_entry : (decodeED op nn).entry = (decodeED op nn').entry := by
  unfold decodeED
  split
  · unfold decodeEDX1
    split
    case h_4 => split <;> rfl
    all_goals rfl
  all_goals rfl

end

section
variable (p q : IndexReg) (op b2 b3 c2 c3 : Byte)

theorem decodeXYCB_entry : (decodeXYCB p b2 op).entry = (decodeXYCB q c2 op).entry := by
  unfold decodeXYCB
  split
  · unfold decodeRotMemXYdR
    split <;> rfl
  · unfold decodeRotMemXYd
    split <;> rfl
  all_goals rfl

theorem decodeXYX1_entry : (decodeXYX1 p op b2).entry = (decodeXYX1 q op c2).entry := by
  unfold decodeXYX1
  split
  · rfl
  · rfl
  · rfl
  · split
    · rfl
    · split
      · rfl
      · rfl
      · split <;> rfl

theorem decodeXY_entry (h : op ≠ 0xCB) : (decodeXY p op b2 b3).entry = (decodeXY q op c2 c3).entry := by
  unfold decodeXY
  split
  · split <;> rfl
  · exact decodeXYX1_entry p q op b2 c2
  · split
    · unfold decodeAluXYH
      split <;> rfl
    · unfold decodeAluXYL
      split <;> rfl
    · unfold decodeAluMemXYd
      split <;> rfl
    · rfl
  · split
    · exact absurd rfl h
    all_goals rfl

end

/-! ### Ignored prefixes -/

theorem Instr.eq_prefixIgnored {i : Instr} (h : i.format = .xP1) : ∃ p, i = .prefixIgnored p := by
  cases i with
  | prefixIgnored p => exact ⟨p, rfl⟩
  | _ => cases h

/-- AFFECTED lists every opcode that the decoder reads with the index prefix (30_encoding.md R109). -/
theorem ignored_or_affected : ∀ op : Byte, (decodeXY .ix op 0 0).format = .xP1 ∨ op ∈ affectedOpcodes := by decide

/-- The operand bytes do not matter to the format, and the encoding has the index register's own prefix byte. -/
theorem decodeXY_ignored (p : IndexReg) {op : Byte} (b2 b3 : Byte) (h : op ∉ affectedOpcodes) :
    decodeXY p op b2 b3 = .prefixIgnored p := by
  have hformat := (ignored_or_affected op).resolve_right h
  have hentry := decodeXY_entry p .ix op b2 b3 0 0 (ne_of_mem_of_not_mem (by decide) h).symm
  obtain ⟨q, hq⟩ := Instr.eq_prefixIgnored ((congrArg (·.2.1) hentry).trans hformat)
  obtain ⟨-, hbytes⟩ := decodeXY_begins p op b2 b3
  rw [hq] at hbytes ⊢
  rw [prefixByte_inj (List.cons.inj (List.prefix_iff_eq_take.mp hbytes)).1]

end Sys2Proof
end

section
/-! SUPPORT. The proofs of O1 and O2. Four bytes decode to `i` if they begin with the encoding of `i` (`decodeBytes_of_begins`) and
only if they do (`decodeBytes_begins`); `decode` pads shorter lists with zeros and asks for the instruction's own bytes. -/

namespace Sys2Proof

/-- NONI is the answer to every opcode of R108: to the quarters x = 0 and x = 3, to two opcodes of the quarter x = 1, and in the
quarter x = 2 to all but the block instructions (30_encoding.md R107, R108). -/
theorem decodeED_noni {op : Byte} (nn : Word) (h : isNoni op = true) : decodeED op nn = .noni op := by
  obtain ⟨x, y, z, rfl⟩ := exists_fields op
  unfold decodeED
  rw [xField_append]
  cases x using twoBits_cases with
  | zero | three => rfl
  | one =>
    cases z using threeBits_cases with
    | seven =>
      cases y using threeBits_cases with
      | six | seven => rfl
      | _ => cases h
    | _ => cases y using threeBits_cases <;> cases h
  | two =>
    cases y using threeBits_cases with
    | zero | one | two | three => cases z using threeBits_cases <;> rfl
    | _ =>
      cases z using threeBits_cases with
      | zero | one | two | three => cases h
      | _ => rfl

/-- An instruction with a word operand, which the decoder joins of its two bytes. -/
theorem eq_of_joinBytes {i : Instr} {f : Word → Instr} (nn : Word) (h : i = f (joinBytes (hi nn) (lo nn))) : i = f nn := by
  rwa [Machine.joinBytes_hi_lo] at h

/-- The decoder on the encoding of each instruction: well-formedness excludes the operands that stand for another instruction, and
the next byte after an ignored prefix is one that leaves it ignored (30_encoding.md R111). -/
theorem decodeBytes_of_begins {i : Instr} {b0 b1 b2 b3 : Byte} (h : i.Begins [b0, b1, b2, b3])
    (hnext : i.format = .xP1 → b1 ∉ affectedOpcodes) : decodeBytes b0 b1 b2 b3 = i := by
  obtain ⟨hwf, _, hbytes⟩ := h
  cases i with
  | noni op => cases hbytes; exact decodeED_noni _ hwf
  | prefixIgnored p => cases hbytes; exact (decodeBytes_index ..).trans (decodeXY_ignored p _ _ (hnext rfl))
  | jrCc cc e =>
    cases hbytes
    cases cc with
    | nz | z | nc | c => rfl
    | po | pe | p | m => cases hwf
  | retn y =>
    cases hbytes
    cases y using threeBits_cases with
    | one => cases hwf
    | _ => rfl
  | ldXYHR p r | ldXYLR p r =>
    cases hbytes
    cases r with
    | h | l => cases hwf
    | b | c | d | e | a => cases p <;> rfl
  | rst y | neg y | im y => cases hbytes; cases y using threeBits_cases <;> rfl
  | bitR b r | resR b r | setR b r | bitMemHL b | resMemHL b | setMemHL b => cases hbytes; simp [decodeBytes, decodeCB]
  | bitMemXYd b p d z | resMemXYd b p d | resMemXYdR b p d r | setMemXYd b p d | setMemXYdR b p d r =>
    cases hbytes
    rw [decodeBytes_xycb]
    simp [decodeXYCB]
  | ldMemNnHL nn | ldHLMemNn nn | ldMemNnA nn | ldAMemNn nn | jp nn | call nn => cases hbytes; exact eq_of_joinBytes nn rfl
  | ldRpNn rp nn | ldRpMemNn rp nn => cases hbytes; cases rp <;> exact eq_of_joinBytes nn rfl
  | ldMemNnRp nn rp => cases hbytes; cases rp <;> exact eq_of_joinBytes (f := (.ldMemNnRp · _)) nn rfl
  | jpCc cc nn | callCc cc nn => cases hbytes; cases cc <;> exact eq_of_joinBytes nn rfl
  | ldXYNn p nn | ldXYMemNn p nn => cases hbytes; cases p <;> exact eq_of_joinBytes nn rfl
  | ldMemNnXY nn p => cases hbytes; cases p <;> exact eq_of_joinBytes (f := (.ldMemNnXY · _)) nn rfl
  | ldRR dst src => cases hbytes; cases dst <;> cases src <;> rfl
  | incR r | decR r | ldRN r _ | ldRMemHL r | ldMemHLR r | addAR r | adcAR r | subR r | sbcAR r | andR r | xorR r | orR r
  | cpR r | rlcR r | rrcR r | rlR r | rrR r | slaR r | sraR r | sllR r | srlR r | inRC r | outCR r =>
    cases hbytes; cases r <;> rfl
  | incRp rp | decRp rp | addHLRp rp | sbcHLRp rp | adcHLRp rp | popRp2 rp | pushRp2 rp => cases hbytes; cases rp <;> rfl
  | retCc cc => cases hbytes; cases cc <;> rfl
  | addXYRp p rp => cases hbytes; cases p <;> cases rp <;> rfl
  | ldRXYH r p | ldRXYL r p | ldRMemXYd r p _ | ldMemXYdR p _ r | rlcMemXYdR p _ r | rrcMemXYdR p _ r | rlMemXYdR p _ r
  | rrMemXYdR p _ r | slaMemXYdR p _ r | sraMemXYdR p _ r | sllMemXYdR p _ r | srlMemXYdR p _ r =>
    cases hbytes; cases p <;> cases r <;> rfl
  | incXY p | decXY p | incXYH p | decXYH p | incXYL p | decXYL p | ldXYHN p _ | ldXYLN p _ | incMemXYd p _ | decMemXYd p _
  | ldMemXYdN p _ _ | addAXYH p | addAXYL p | addAMemXYd p _ | adcAXYH p | adcAXYL p | adcAMemXYd p _ | subXYH p | subXYL p
  | subMemXYd p _ | sbcAXYH p | sbcAXYL p | sbcAMemXYd p _ | andXYH p | andXYL p | andMemXYd p _ | xorXYH p | xorXYL p
  | xorMemXYd p _ | orXYH p | orXYL p | orMemXYd p _ | cpXYH p | cpXYL p | cpMemXYd p _ | popXY p | exMemSPXY p | pushXY p
  | jpXY p | ldSPXY p | rlcMemXYd p _ | rrcMemXYd p _ | rlMemXYd p _ | rrMemXYd p _ | slaMemXYd p _ | sraMemXYd p _
  | sllMemXYd p _ | srlMemXYd p _ => cases hbytes; cases p <;> rfl
  | _ => cases hbytes; rfl

/-! ### Lists of bytes -/

theorem Format.length_le_four (f : Format) : f.length ≤ 4 := by cases f <;> decide

theorem Instr.bytesSeen_bounds (i : Instr) : 1 ≤ i.bytesSeen ∧ i.bytesSeen ≤ 4 := by
  unfold Instr.bytesSeen
  cases i.format <;> decide

theorem Instr.bytesSeen_eq_length {i : Instr} (h : i.format ≠ .xP1) : i.bytesSeen = i.length := by
  unfold Instr.bytesSeen
  split
  · exact absurd ‹_› h
  · rfl

theorem Instr.length_le_bytesSeen (i : Instr) : i.length ≤ i.bytesSeen := by
  unfold Instr.bytesSeen Instr.length
  cases i.format <;> decide

theorem decode_eq_ok_iff (bs : List Byte) (i : Instr) :
    decode bs = .ok i ↔ decodePadded bs = i ∧ i.bytesSeen ≤ bs.length := by
  cases bs with
  | nil =>
    refine ⟨nofun, fun ⟨_, hseen⟩ => ?_⟩
    exact absurd (i.bytesSeen_bounds.1.trans hseen) (by decide)
  | cons b0 rest =>
    have hpadded : decodePadded (b0 :: rest) = decodeBytes b0 (rest.getD 0 0) (rest.getD 1 0) (rest.getD 2 0) := rfl
    rw [hpadded]
    unfold decode
    dsimp only
    split
    next hseen => exact ⟨fun hok => ⟨Except.ok.inj hok, Except.ok.inj hok ▸ hseen⟩, fun ⟨hi, _⟩ => congrArg _ hi⟩
    next hseen => exact ⟨nofun, fun ⟨hi, hlen⟩ => absurd (hi ▸ hlen) hseen⟩

theorem getD_four_eq_take (bs : List Byte) :
    [bs.getD 0 0, bs.getD 1 0, bs.getD 2 0, bs.getD 3 0] = (bs ++ [0, 0, 0, 0]).take 4 := by
  match bs with
  | [] | [_] | [_, _] | [_, _, _] | _ :: _ :: _ :: _ :: _ => rfl

/-- The four bytes that `decodePadded` looks at begin with an encoding if the list does, where the list is long enough for it. -/
theorem Instr.begins_getD_iff {i : Instr} {bs : List Byte} (h : i.length ≤ bs.length) :
    i.Begins [bs.getD 0 0, bs.getD 1 0, bs.getD 2 0, bs.getD 3 0] ↔ i.Begins bs := by
  have hlen := encode_length i
  have hfour : (encode i).length ≤ 4 := hlen.trans_le i.format.length_le_four
  have hpad : encode i <+: bs ++ [0, 0, 0, 0] ↔ encode i <+: bs :=
    ⟨fun hp => List.prefix_of_prefix_length_le hp (List.prefix_append ..) (hlen.trans_le h),
      fun hp => hp.trans (List.prefix_append ..)⟩
  rw [getD_four_eq_take, Instr.Begins, List.prefix_take_iff, hpad, and_iff_left hfour]
  rfl

/-! ### The statements -/

/-- Settles O2: the bytes looked at begin with the encoding of what they decode to (`decodeBytes_begins`). -/
theorem encodeOfDecode : Obligations.EncodeOfDecode := by
  unfold Obligations.EncodeOfDecode
  intro bs i hdecode
  obtain ⟨rfl, hseen⟩ := (decode_eq_ok_iff bs i).mp hdecode
  have hlen := (decodePadded bs).length_le_bytesSeen.trans hseen
  obtain ⟨hwf, hbytes⟩ := (Instr.begins_getD_iff hlen).mp (decodeBytes_begins ..)
  exact ⟨hwf, hlen, encode_length _ ▸ List.prefix_iff_eq_take.mp hbytes⟩

/-- Settles O1: bytes that begin with the encoding of an instruction decode to it (`decodeBytes_of_begins`); an ignored prefix has
its next byte in what follows. -/
theorem decodeOfEncode : Obligations.DecodeOfEncode := by
  unfold Obligations.DecodeOfEncode
  intro i rest hwf hnext
  have hlen : i.length ≤ (encode i ++ rest).length := by simp [encode_length]
  have hbegins := (Instr.begins_getD_iff hlen).mpr ⟨hwf, List.prefix_append ..⟩
  rw [decode_eq_ok_iff]
  by_cases hformat : i.format = .xP1
  · obtain ⟨p, rfl⟩ := Instr.eq_prefixIgnored hformat
    obtain ⟨b, bs, rfl, hb⟩ := hnext
    exact ⟨decodeBytes_of_begins hbegins fun _ => hb, Nat.le_add_left 2 bs.length⟩
  · exact ⟨decodeBytes_of_begins hbegins (absurd · hformat), (Instr.bytesSeen_eq_length hformat).trans_le hlen⟩

end Sys2Proof
end

section
/-! SUPPORT. The proof of O3. The rows of a map share the patterns of their first bytes and differ in one opcode byte, so that the
rows that fit four bytes are those of one map that fit one byte (with an index prefix before 0xCB, of two maps); which of them has
the most mask bits is checked for each of that byte's 256 values (30_encoding.md R115). -/

namespace Sys2Proof
namespace OpcodeRow

/-! ### The rows that fit -/

/-- The rows of the unprefixed map. -/
def mainRows : List OpcodeRow := main1 ++ main2 ++ main3

/-- The rows of the ED map. -/
def edRows : List OpcodeRow := ed1 ++ ed2

/-- The rows of the index prefixes. -/
def xyRows : List OpcodeRow := xy1 ++ xy2

/-- The pattern of the byte at position `k`; past a row's end any byte fits. -/
def patternAt (row : OpcodeRow) (k : Nat) : Byte × Byte := row.bytes.getD k (0, 0)

/-- The byte at position `k` has the row's bits. This is `byteFits` on numbers, which is cheaper to evaluate (`byteFits_eq`). -/
def hits (k : Nat) (op : Byte) (row : OpcodeRow) : Bool :=
  (op.toNat &&& (row.patternAt k).1.toNat).beq (row.patternAt k).2.toNat

theorem byteFits_eq {pattern : Byte × Byte} (op : Byte) (h : pattern.1 = 0 → pattern.2 = 0) :
    byteFits pattern op = (op.toNat &&& pattern.1.toNat).beq pattern.2.toNat := by
  by_cases hmask : pattern.1 = 0
  · simp [byteFits, hmask, h hmask]
  · rw [byteFits, beq_false_of_ne hmask, Bool.false_or, Bool.eq_iff_iff, beq_iff_eq, Nat.beq_eq, ← BitVec.toNat_inj,
      BitVec.toNat_and]

theorem bytesFit_append {ps qs : List (Byte × Byte)} {bs cs : List Byte} (h : ps.length = bs.length) :
    bytesFit (ps ++ qs) (bs ++ cs) = (bytesFit ps bs && bytesFit qs cs) := by
  induction ps generalizing bs with
  | nil =>
    obtain rfl := List.length_eq_zero_iff.mp h.symm
    rfl
  | cons p ps ih =>
    obtain ⟨b, bs, rfl⟩ := List.exists_cons_of_length_eq_add_one h.symm
    simp [bytesFit, ih (Nat.succ.inj h), Bool.and_assoc]

/-- A row has the given patterns, and then at most the one of the byte that tells the rows of its map apart. -/
abbrev Follows (first : List (Byte × Byte)) (row : OpcodeRow) : Prop :=
  (row.bytes = first ∨ row.bytes = first ++ [row.patternAt first.length]) ∧
    ((row.patternAt first.length).1 = 0 → (row.patternAt first.length).2 = 0)

theorem Follows.fits {first : List (Byte × Byte)} {row : OpcodeRow} {bs : List Byte} (h : Follows first row) (op : Byte)
    (cs : List Byte) (hlen : first.length = bs.length) :
    row.fits (bs ++ op :: cs) = (bytesFit first bs && row.hits first.length op) := by
  obtain ⟨hbytes | hbytes, hmask⟩ := h
  · have hany : row.hits first.length op = true := by simp [hits, patternAt, hbytes]
    have happend := bytesFit_append (qs := []) (cs := op :: cs) hlen
    rw [List.append_nil] at happend
    rw [OpcodeRow.fits, hbytes, hany, happend]
    rfl
  · rw [OpcodeRow.fits, hbytes, bytesFit_append hlen, hits, ← byteFits_eq op hmask]
    simp [bytesFit]

theorem main_follows : ∀ row ∈ mainRows, row.Follows [] := by decide
theorem cb_follows : ∀ row ∈ cb1, row.Follows [(0xFF, 0xCB)] := by decide
theorem ed_follows : ∀ row ∈ edRows, row.Follows [(0xFF, 0xED)] := by decide
theorem xy_follows : ∀ row ∈ xyRows, row.Follows [(0xDF, 0xDD)] := by decide
theorem xycb_follows : ∀ row ∈ xycb1, row.Follows [(0xDF, 0xDD), (0xFF, 0xCB), (0x00, 0x00)] := by decide

/-- No row of the unprefixed map fits a prefix byte. -/
theorem plain_of_hits : ∀ row ∈ mainRows, ∀ op : Byte, row.hits 0 op = true → plainOpcode op = true := by
  have hprefix : ∀ row ∈ mainRows, row.hits 0 0xCB = false ∧ row.hits 0 0xED = false ∧ row.hits 0 0xDD = false ∧
      row.hits 0 0xFD = false := by decide
  intro row hrow op hhits
  obtain ⟨hcb, hed, hdd, hfd⟩ := hprefix row hrow
  obtain rfl | rfl | ⟨p, rfl⟩ | hplain := firstByte_cases op
  · cases hcb.symm.trans hhits
  · cases hed.symm.trans hhits
  · cases p with
    | ix => cases hdd.symm.trans hhits
    | iy => cases hfd.symm.trans hhits
  · exact hplain

theorem byteFits_full (c b : Byte) : byteFits (0xFF, c) b = (b == c) := congrArg (· == c) BitVec.and_allOnes

theorem byteFits_prefixByte (p : IndexReg) : plainOpcode p.prefixByte = false ∧ byteFits (0xFF, 0xCB) p.prefixByte = false ∧
    byteFits (0xFF, 0xED) p.prefixByte = false ∧ byteFits (0xDF, 0xDD) p.prefixByte = true := by
  cases p <;> decide

theorem byteFits_of_plain : ∀ op : Byte, plainOpcode op = true →
    byteFits (0xFF, 0xCB) op = false ∧ byteFits (0xFF, 0xED) op = false ∧ byteFits (0xDF, 0xDD) op = false := by
  decide

section
variable (row : OpcodeRow) (b0 b1 b2 b3 : Byte)

theorem fits_main (h : row ∈ mainRows) : row.fits [b0, b1, b2, b3] = (plainOpcode b0 && row.hits 0 b0) := by
  have hfits : row.fits [b0, b1, b2, b3] = row.hits 0 b0 := (main_follows row h).fits (bs := []) b0 [b1, b2, b3] rfl
  rw [hfits, Bool.eq_iff_iff, Bool.and_eq_true]
  exact ⟨fun hhits => ⟨plain_of_hits row h b0 hhits, hhits⟩, And.right⟩

theorem fits_cb (h : row ∈ cb1) : row.fits [b0, b1, b2, b3] = (byteFits (0xFF, 0xCB) b0 && row.hits 1 b1) := by
  simpa [bytesFit] using (cb_follows row h).fits (bs := [b0]) b1 [b2, b3] rfl

theorem fits_ed (h : row ∈ edRows) : row.fits [b0, b1, b2, b3] = (byteFits (0xFF, 0xED) b0 && row.hits 1 b1) := by
  simpa [bytesFit] using (ed_follows row h).fits (bs := [b0]) b1 [b2, b3] rfl

theorem fits_xy (h : row ∈ xyRows) : row.fits [b0, b1, b2, b3] = (byteFits (0xDF, 0xDD) b0 && row.hits 1 b1) := by
  simpa [bytesFit] using (xy_follows row h).fits (bs := [b0]) b1 [b2, b3] rfl

theorem fits_xycb (h : row ∈ xycb1) :
    row.fits [b0, b1, b2, b3] = (byteFits (0xDF, 0xDD) b0 && b1 == 0xCB && row.hits 3 b3) := by
  have hfirst : bytesFit [(0xDF, 0xDD), (0xFF, 0xCB), (0x00, 0x00)] [b0, b1, b2] =
      (byteFits (0xDF, 0xDD) b0 && b1 == 0xCB) :=
    congrArg (byteFits _ b0 && ·) ((Bool.and_true _).trans (byteFits_full 0xCB b1))
  rw [← hfirst]
  exact (xycb_follows row h).fits (bs := [b0, b1, b2]) b3 [] rfl

end

/-- The rows of the table that fit four bytes, map by map, by what the first two bytes tell. -/
theorem mem_opcodeTable_fits (b0 b1 b2 b3 : Byte) {isPlain isCB isED isIndex isCB' : Bool} (hplain : plainOpcode b0 = isPlain)
    (hcb : byteFits (0xFF, 0xCB) b0 = isCB) (hed : byteFits (0xFF, 0xED) b0 = isED)
    (hindex : byteFits (0xDF, 0xDD) b0 = isIndex) (hcb' : (b1 == 0xCB) = isCB') (row : OpcodeRow) :
    row ∈ opcodeTable ∧ row.fits [b0, b1, b2, b3] = true ↔
      isPlain = true ∧ row ∈ mainRows.filter (hits 0 b0) ∨ isCB = true ∧ row ∈ cb1.filter (hits 1 b1) ∨
      isED = true ∧ row ∈ edRows.filter (hits 1 b1) ∨ isIndex = true ∧ row ∈ xyRows.filter (hits 1 b1) ∨
      (isIndex && isCB') = true ∧ row ∈ xycb1.filter (hits 3 b3) := by
  have htable : row ∈ opcodeTable ↔ row ∈ mainRows ∨ row ∈ cb1 ∨ row ∈ edRows ∨ row ∈ xyRows ∨ row ∈ xycb1 := by
    simp only [opcodeTable, mainRows, edRows, xyRows, List.mem_append, or_assoc]
  have hpart {rows : List OpcodeRow} {c hit : Bool} (h : row ∈ rows → row.fits [b0, b1, b2, b3] = (c && hit)) :
      row ∈ rows ∧ row.fits [b0, b1, b2, b3] = true ↔ c = true ∧ row ∈ rows ∧ hit = true := by
    rw [and_left_comm (a := c = true), ← Bool.and_eq_true]
    exact and_congr_right fun hrow => by rw [h hrow]
  subst hplain hcb hed hindex hcb'
  simp only [htable, or_and_right, List.mem_filter, hpart (fits_main row b0 b1 b2 b3), hpart (fits_cb row b0 b1 b2 b3),
    hpart (fits_ed row b0 b1 b2 b3), hpart (fits_xy row b0 b1 b2 b3), hpart (fits_xycb row b0 b1 b2 b3)]

/-! ### The row with the most mask bits -/

/-- The row has the instruction's name, length and cycle counts. -/
abbrev Describes (row : OpcodeRow) (i : Instr) : Prop :=
  row.mnemonic = i.mnemonic ∧ row.length = i.length ∧ row.cycles = i.tableCycles

theorem Describes.congr {row : OpcodeRow} {i j : Instr} (h : row.Describes i) (hentry : i.entry = j.entry) : row.Describes j := by
  obtain ⟨hname, hformat, hcycles⟩ : i.mnemonic = j.mnemonic ∧ i.format = j.format ∧ i.tableCycles = j.tableCycles := by
    simpa [Instr.entry] using hentry
  obtain ⟨hrow, hlen, hrowCycles⟩ := h
  exact ⟨hrow.trans hname, hlen.trans (congrArg Format.length hformat), hrowCycles.trans hcycles⟩

/-- Of the rows listed, the one with the most mask bits is the instruction's. -/
abbrev Chooses (rows : List OpcodeRow) (i : Instr) : Prop :=
  ∃ row ∈ rows, (∀ other ∈ rows, other ≠ row → other.maskBits < row.maskBits) ∧ row.Describes i

theorem main_chooses : ∀ op : Byte, plainOpcode op = false ∨ Chooses (mainRows.filter (hits 0 op)) (decodeMain op 0 0) := by
  decide

theorem cb_chooses : ∀ op : Byte, Chooses (cb1.filter (hits 1 op)) (decodeCB op) := by decide

theorem ed_chooses : ∀ op : Byte, Chooses (edRows.filter (hits 1 op)) (decodeED op 0) := by decide

theorem xy_chooses : ∀ op : Byte, op = 0xCB ∨ Chooses (xyRows.filter (hits 1 op)) (decodeXY .ix op 0 0) := by decide

theorem xycb_chooses : ∀ op : Byte,
    Chooses (xyRows.filter (hits 1 0xCB) ++ xycb1.filter (hits 3 op)) (decodeXYCB .ix 0 op) := by decide

/-- The choice among the rows listed is the table's where these are the rows that fit. -/
theorem Chooses.chosenFor {rows : List OpcodeRow} {i j : Instr} {bs : List Byte} (h : Chooses rows i)
    (hentry : i.entry = j.entry) (hrows : ∀ row, row ∈ opcodeTable ∧ row.fits bs = true ↔ row ∈ rows) :
    ∃ row : OpcodeRow, row.chosenFor bs ∧ row.Describes j := by
  obtain ⟨row, hmem, hmost, hdescribes⟩ := h
  obtain ⟨htable, hfits⟩ := (hrows row).mpr hmem
  exact ⟨row, ⟨htable, hfits, fun other hother hfit hne => hmost other ((hrows other).mp ⟨hother, hfit⟩) hne⟩,
    hdescribes.congr hentry⟩

/-- The row chosen for four bytes is that of the instruction they decode to: by the map that the first bytes open. -/
theorem exists_chosenFor (b0 b1 b2 b3 : Byte) :
    ∃ row : OpcodeRow, row.chosenFor [b0, b1, b2, b3] ∧ row.Describes (decodeBytes b0 b1 b2 b3) := by
  obtain rfl | rfl | ⟨p, rfl⟩ | hplain := firstByte_cases b0
  · have hrows := mem_opcodeTable_fits 0xCB b1 b2 b3 (isPlain := false) (isCB := true) (isED := false) (isIndex := false)
      rfl rfl rfl rfl rfl
    exact (cb_chooses b1).chosenFor rfl fun row => (hrows row).trans (by simp)
  · have hrows := mem_opcodeTable_fits 0xED b1 b2 b3 (isPlain := false) (isCB := false) (isED := true) (isIndex := false)
      rfl rfl rfl rfl rfl
    exact (ed_chooses b1).chosenFor (decodeED_entry b1 _ _) fun row => (hrows row).trans (by simp)
  · obtain ⟨hplain, hcb, hed, hindex⟩ := byteFits_prefixByte p
    rw [decodeBytes_index]
    by_cases hb1 : b1 = 0xCB
    · subst hb1
      have hrows := mem_opcodeTable_fits p.prefixByte 0xCB b2 b3 (isCB' := true) hplain hcb hed hindex rfl
      exact (xycb_chooses b3).chosenFor (decodeXYCB_entry .ix p b3 _ _) fun row => (hrows row).trans (by simp)
    · have hrows := mem_opcodeTable_fits p.prefixByte b1 b2 b3 hplain hcb hed hindex (beq_false_of_ne hb1)
      exact ((xy_chooses b1).resolve_left hb1).chosenFor (decodeXY_entry .ix p b1 _ _ _ _ hb1) fun row =>
        (hrows row).trans (by simp)
  · obtain ⟨hcb, hed, hindex⟩ := byteFits_of_plain b0 hplain
    have hrows := mem_opcodeTable_fits b0 b1 b2 b3 hplain hcb hed hindex rfl
    rw [decodeBytes_plain b1 b2 b3 hplain]
    exact ((main_chooses b0).resolve_left (ne_false_of_eq_true hplain)).chosenFor (decodeMain_entry b0 _ _ _ _) fun row =>
      (hrows row).trans (by simp)

end OpcodeRow

/-- Settles O3: four bytes are enough for every instruction, and `OpcodeRow.exists_chosenFor` gives the row. -/
theorem decodeFollowsTable : Obligations.DecodeFollowsTable := by
  unfold Obligations.DecodeFollowsTable
  intro b0 b1 b2 b3
  obtain ⟨row, hchosen, hdescribes⟩ := OpcodeRow.exists_chosenFor b0 b1 b2 b3
  exact ⟨row, decodeBytes b0 b1 b2 b3, (decode_eq_ok_iff _ _).mpr ⟨rfl, (Instr.bytesSeen_bounds _).2⟩, hchosen, hdescribes⟩

end Sys2Proof
end

section
/-! SUPPORT. The proof of O24: every meaning ends with a cycle count of its row (30_encoding.md R117), and the counts of the table
are bounded. -/

namespace Sys2Proof

/-- No count of the table is below 4 or above 23 (60_exceptions.md R606, 70_reset_and_hazards.md R720). -/
theorem Instr.tableCycles_bounds (i : Instr) : ∀ n ∈ i.tableCycles, 4 ≤ n ∧ n ≤ 23 := by
  have h : (i.tableCycles.all fun n => 4 ≤ n && n ≤ 23) = true := by cases i <;> rfl
  simpa using h

namespace Machine

/-- A meaning completes, in one of the listed numbers of cycles. -/
def CompletesIn (cycles : List Nat) (r : Result) : Prop := ∃ t : State, r = .next t ∧ t.stepCycles ∈ cycles

namespace CompletesIn

theorem took {t : State} {n : Nat} : CompletesIn [n] (.next (t.took n)) := ⟨_, rfl, .head _⟩

/-- A conditional instruction: the first count where the condition holds, the second where it does not. -/
theorem ite {t u : State} {m n : Nat} {b : Bool} : CompletesIn [m, n] (.next (if b then t.took m else u.took n)) := by
  cases b with
  | true => exact ⟨_, rfl, .head _⟩
  | false => exact ⟨_, rfl, .tail _ (.head _)⟩

theorem repeatCopy (t : State) : CompletesIn [21, 16] (.next t.repeatCopy) := ite

theorem repeatSearch (t : State) (v : Byte) : CompletesIn [21, 16] (.next (t.repeatSearch v)) := ite

theorem repeatIo (t : State) : CompletesIn [21, 16] (.next t.repeatIo) := ite

end CompletesIn

/-- Every instruction completes in a count of its row: the conditional transfers and the repeating block instructions have two
counts, every other instruction one, with which its meaning ends. -/
theorem exec_completesIn (i : Instr) (s : State) : CompletesIn i.tableCycles (exec i s) := by
  cases i with
  | jrCc _ _ | djnz _ | callCc _ _ | retCc _ => exact .ite
  | ldir | lddr => exact .repeatCopy _
  | cpir | cpdr => exact .repeatSearch _ _
  | inir | indr | otir | otdr => exact .repeatIo _
  | _ => exact .took

/-- Settles O24: by `exec_completesIn`, and the bounds of the table's counts. -/
theorem cyclesFollowTable : Obligations.CyclesFollowTable := by
  unfold Obligations.CyclesFollowTable
  intro i s
  obtain ⟨t, hexec, hcycles⟩ := exec_completesIn i s
  exact ⟨t, hexec, hcycles, i.tableCycles_bounds _ hcycles⟩

end Machine
end Sys2Proof
end

section
/-! SUPPORT. For the statements with stores: what a list of writes of memory leaves where none of them reaches a device
(20_memory.md R67), and from that the frame `State.Stores`. -/

namespace Sys2Proof.Machine

/-- The byte that a list of writes leaves over an old one: the first write counts where no later one reaches the address. -/
theorem lastWrite_cons_getD (p : Word × Byte) (ps : List (Word × Byte)) (a : Word) (old : Byte) :
    (lastWrite (p :: ps) a).getD old = (lastWrite ps a).getD (if p.1 = a then p.2 else old) := by
  cases hlast : lastWrite ps a with
  | some v => simp [lastWrite, hlast]
  | none =>
    simp only [lastWrite, hlast]
    split <;> rfl

theorem State.byteAfter_of_ram {s : State} {a : Word} {key : Nat} (h : s.memTarget a = .ram key) (writes : List (Word × Byte)) :
    s.byteAfter writes a = some ((lastWrite writes a).getD (s.mem.ram.read key)) := by
  unfold State.byteAfter State.byteAt
  rw [h]
  cases lastWrite writes a <;> rfl

theorem State.byteAfter_of_not_ram {s : State} {a : Word} (h : ∀ key, s.memTarget a ≠ .ram key) (writes : List (Word × Byte)) :
    s.byteAfter writes a = s.byteAt a := by
  unfold State.byteAfter
  split
  · exact absurd ‹_› (h _)
  · rfl

theorem MemState.wf_of_ok {cfg : Config} {m : MemState} (h : m.ok cfg = true) : m.ram.wf = true :=
  (Bool.and_eq_true_iff.1 (MemState.ok_iff.1 h).1).1

/-! ### Writes that reach no device -/

/-- A write that reaches no device changes RAM only. -/
theorem State.memWrite_of_no_device {s : State} {a : Word} (h : ∀ reg, s.memTarget a ≠ .device reg) (v : Byte) :
    s.memWrite a v = { s with mem := { s.mem with ram := (s.memWrite a v).mem.ram } } := by
  unfold State.memWrite
  cases htarget : s.memTarget a with
  | device reg => exact absurd htarget (h reg)
  | ram _ | rom _ | unmapped => rfl

/-- A write changes the RAM byte of its own address and no other, as no two addresses share one (20_memory.md R63, R67). -/
theorem State.memWrite_read {s : State} (hcheck : s.cfg.check = none) (hwf : s.mem.ram.wf = true) {a b : Word} {key : Nat}
    (ha : ∀ reg, s.memTarget a ≠ .device reg) (hb : s.memTarget b = .ram key) (v : Byte) :
    (s.memWrite a v).mem.ram.read key = if a = b then v else s.mem.ram.read key := by
  cases htarget : s.memTarget a with
  | device reg => exact absurd htarget (ha reg)
  | ram key' =>
    have hsame : key = key' ↔ a = b :=
      ⟨fun hkey => ramBytesApart s a b key hcheck (hkey ▸ htarget) hb,
        fun hab => BusTarget.ram.inj (hb.symm.trans (hab ▸ htarget))⟩
    rw [State.memWrite_of_target htarget]
    exact (Memory.read_write key' v key hwf).trans (by simp only [hsame])
  | rom _ | unmapped =>
    have hne : a ≠ b := fun hab => by simp [hab, hb] at htarget
    rw [State.memWrite_of_target htarget, if_neg hne]
    rfl

/-- Writes that reach no device leave the devices and the bank selection alone. -/
theorem State.writeAll_of_no_device {s : State} {writes : List (Word × Byte)}
    (h : ∀ p ∈ writes, ∀ reg, s.memTarget p.1 ≠ .device reg) :
    (State.writeAll writes s).io = s.io ∧ (State.writeAll writes s).mem.bankSel = s.mem.bankSel := by
  induction writes generalizing s with
  | nil => exact ⟨rfl, rfl⟩
  | cons p ps ih =>
    have hwrite := State.memWrite_of_no_device (h p (.head _)) p.2
    have htail : ∀ q ∈ ps, ∀ reg, (s.memWrite p.1 p.2).memTarget q.1 ≠ .device reg := by
      rw [hwrite]
      exact fun q hq => h q (.tail _ hq)
    obtain ⟨hio, hbanks⟩ := ih htail
    rw [hwrite] at hio hbanks
    rw [State.writeAll, hwrite]
    exact ⟨hio, hbanks⟩

/-- The RAM byte of an address after writes that reach no device: the last one written to the address, else the old byte. -/
theorem State.writeAll_read {s : State} (hcheck : s.cfg.check = none) (hwf : s.mem.ram.wf = true) {writes : List (Word × Byte)}
    (h : ∀ p ∈ writes, ∀ reg, s.memTarget p.1 ≠ .device reg) {a : Word} {key : Nat} (ha : s.memTarget a = .ram key) :
    (State.writeAll writes s).mem.ram.read key = (lastWrite writes a).getD (s.mem.ram.read key) := by
  induction writes generalizing s with
  | nil => rfl
  | cons p ps ih =>
    have hwrite := State.memWrite_of_no_device (h p (.head _)) p.2
    have htarget (b : Word) : (s.memWrite p.1 p.2).memTarget b = s.memTarget b := by rw [hwrite]; rfl
    have htail : ∀ q ∈ ps, ∀ reg, (s.memWrite p.1 p.2).memTarget q.1 ≠ .device reg := fun q hq => by
      rw [htarget]
      exact h q (.tail _ hq)
    have hrest := ih (s := s.memWrite p.1 p.2) (by rwa [State.memWrite_cfg]) (s.writeTarget_wf _ p.2 hwf) htail
      ((htarget a).trans ha)
    rw [State.memWrite_read hcheck hwf (h p (.head _)) ha] at hrest
    rw [lastWrite_cons_getD]
    exact hrest

/-! ### The frame of the stores -/

/-- A state that differs from the one after the writes in the CPU, the count of draws and the cycles has the writes stored. -/
theorem State.stores_of_eq {s t : State} {dev : IoDevices} {writes : List (Word × Byte)}
    (h : t = { State.writeAll writes { s with io := dev } with
      cpu := t.cpu, draws := t.draws, stepCycles := t.stepCycles }) : s.Stores dev writes t := by
  have hmem : t.mem = (State.writeAll writes { s with io := dev }).mem := by rw [h]
  have hio : t.io = (State.writeAll writes { s with io := dev }).io := by rw [h]
  rw [State.writeAll_state] at h
  have hcfg : t.cfg = s.cfg := by rw [h]
  refine ⟨hcfg, by rw [h], by rw [h], hmem, hio, fun hcheck hok hdevice => ?_⟩
  obtain ⟨hdev, hbanks⟩ := State.writeAll_of_no_device (s := { s with io := dev }) hdevice
  have htarget : ∀ a, t.memTarget a = s.memTarget a := State.memTarget_congr hcfg ((congrArg MemState.bankSel hmem).trans hbanks)
  refine ⟨hio.trans hdev, fun a => ?_⟩
  by_cases hram : ∃ key, s.memTarget a = .ram key
  case pos =>
    obtain ⟨key, hkey⟩ := hram
    have hwf : s.mem.ram.wf = true := MemState.wf_of_ok hok
    have hread := State.writeAll_read (s := { s with io := dev }) hcheck hwf hdevice hkey
    rw [State.byteAfter_of_ram hkey, State.byteAt, htarget, hkey, hmem]
    exact congrArg some hread
  case neg =>
    rw [State.byteAfter_of_not_ram (fun key hkey => hram ⟨key, hkey⟩), State.byteAt, State.byteAt, htarget, hcfg]
    split
    · exact absurd ⟨_, ‹_›⟩ hram
    all_goals rfl

end Sys2Proof.Machine
end

section
/-! SUPPORT. The proofs of O27, O28 and O4. The operands of the byte instructions as operations of the state: an operand read, with
what the read leaves, and a byte register written; then every load and every store is one equation (40_load8.md R150 to R165). -/

namespace Sys2Proof.Machine

/-! ### Byte registers -/

/-- Writes a byte register that an instruction names (30_encoding.md R104, R110). -/
def State.setByteReg (s : State) (b : ByteReg) (v : Byte) : State :=
  match b with
  | .reg r => s.setReg8 r v
  | .xyh p => s.setIndexHigh p v
  | .xyl p => s.setIndexLow p v

section
variable (s : State)

theorem State.index_setIndex (p q : IndexReg) (w : Word) : (s.setIndex p w).index q = if q = p then w else s.index q := by
  split
  case isTrue h => rw [h, State.setIndex_index]
  case isFalse h => exact s.setIndex_index_ne w h

/-- A write of XY keeps r[ ], which is no part of an index register. -/
theorem State.reg8_setIndex (p : IndexReg) (w : Word) (r : Reg8) : (s.setIndex p w).reg8 r = s.reg8 r :=
  congrArg (RegSet.get · r) (s.setIndex_main p w)

/-- A write of a byte register changes what that register holds and no other. -/
theorem State.byteReg_setByteReg (dst : ByteReg) (v : Byte) (b : ByteReg) :
    (s.setByteReg dst v).byteReg b = if b = dst then v else s.byteReg b := by
  cases dst with
  | reg r =>
    cases b with
    | reg q => simp [State.setByteReg, State.byteReg, RegSet.get_put]
    | xyh q | xyl q => cases q <;> rfl
  | xyh p | xyl p =>
    cases b with
    | reg q => exact s.reg8_setIndex ..
    | xyh q | xyl q =>
      by_cases hq : q = p <;>
        simp [State.setByteReg, State.setIndexHigh, State.setIndexLow, State.byteReg, State.index_setIndex, hq]

/-- A write of a byte register changes the main set and the index registers only. -/
theorem State.setByteReg_state (dst : ByteReg) (v : Byte) :
    s.setByteReg dst v = { s with cpu := { s.cpu with
      main := (s.setByteReg dst v).cpu.main, ix := (s.setByteReg dst v).cpu.ix, iy := (s.setByteReg dst v).cpu.iy } } := by
  cases dst with
  | reg r => rfl
  | xyh p | xyl p => cases p <;> rfl

@[simp] theorem State.setByteReg_f (dst : ByteReg) (v : Byte) : (s.setByteReg dst v).f = s.f := by
  cases dst with
  | reg r => exact RegSet.put_f ..
  | xyh p | xyl p => exact congrArg RegSet.f (s.setIndex_main p _)

theorem State.setXYReg8_eq (p : IndexReg) (r : XYReg8) (v : Byte) :
    s.setXYReg8 p r v = s.setByteReg (xyByteReg p r) v := by
  cases r <;> rfl

end

/-! ### Operands -/

/-- An operand's byte and the state that reading it leaves, WZ included, in the order of the rules (30_encoding.md R102, R103). -/
def State.operand (s : State) : Src → Byte × State
  | .reg b => (s.byteReg b, s)
  | .imm n => (n, s)
  | .mem .hl => s.memRead s.hl
  | .mem (.disp p d) => s.readDisp p d
  | .mem a => ((s.memRead (s.addrOf a)).1, (s.memRead (s.addrOf a)).2.setWz (s.addrOf a + 1))

section
variable (s : State)

/-- WZ does not reach the bus: a read after WZ is written is the read with WZ written after it. -/
theorem State.memRead_setWz (w a : Word) : (s.setWz w).memRead a = ((s.memRead a).1, (s.memRead a).2.setWz w) := by
  refine (s.memRead_withCpu { s.cpu with wz := w } s.stepCycles a).trans (Prod.ext rfl ?_)
  rw [State.memRead_state]
  rfl

/-- A write after WZ is written is the write with WZ written after it. -/
theorem State.memWrite_setWz (w a : Word) (v : Byte) : (s.setWz w).memWrite a v = (s.memWrite a v).setWz w := by
  refine (s.memWrite_withCpu { s.cpu with wz := w } s.draws s.stepCycles a v).trans ?_
  rw [State.memWrite_state]
  rfl

/-- An operand's byte is the one the statements read. -/
theorem State.operand_byte (src : Src) : (s.operand src).1 = (s.readSrc src).1 := by
  cases src with
  | reg b | imm n => rfl
  | mem a =>
    cases a with
    | disp p d => simp only [State.operand, State.readDisp, State.formDisp, State.memRead_setWz, State.dispAddr_eq]; rfl
    | _ => rfl

/-- Reading an operand changes WZ, the devices and the count of draws only, WZ and the devices as the statements say. -/
theorem State.operand_state (src : Src) :
    (s.operand src).2 = { s with
      cpu := { s.cpu with wz := s.wzAfterRead src }
      io := (s.readSrc src).2
      draws := (s.operand src).2.draws } := by
  cases src with
  | reg b | imm n => rfl
  | mem a =>
    have hread := s.memRead_state (s.addrOf a)
    cases a with
    | hl => exact hread
    | disp p d =>
      simp only [State.operand, State.readDisp, State.formDisp, State.memRead_setWz, State.dispAddr_eq]
      exact congrArg (State.setWz · _) hread
    | bc | de | nn _ => exact congrArg (State.setWz · _) hread

end

/-! ### Loads and stores -/

/-- Every load reads its operand and writes the byte to its destination (40_load8.md R150 to R155, R160 to R162). -/
theorem exec_of_byteLoad {i : Instr} {dst : ByteReg} {src : Src} {cycles : Nat} (h : byteLoad i = some (dst, src, cycles))
    (s : State) : exec i s = .next (((s.operand src).2.setByteReg dst (s.operand src).1).took cycles) := by
  unfold byteLoad at h
  split at h <;> cases h
  case h_2 | h_3 => exact congrArg (fun t => Host.Outcome.next (t.took 8)) (s.setXYReg8_eq ..)
  all_goals rfl

/-- Settles O27: by `exec_of_byteLoad` the operand is read and the destination written. -/
theorem byteLoads : Obligations.ByteLoads := by
  unfold Obligations.ByteLoads
  intro i dst src cycles s h
  have hread := s.operand_state src
  have hwrite := (s.operand src).2.setByteReg_state dst (s.operand src).1
  have hreg (b : ByteReg) : (s.operand src).2.byteReg b = s.byteReg b := by rw [hread]; cases b <;> rfl
  refine ⟨_, exec_of_byteLoad h s, rfl, ?dst, fun other hne => ?other, ?flags, ?cpu, ?frame⟩
  case dst => exact (State.byteReg_setByteReg ..).trans ((if_pos rfl).trans (s.operand_byte src))
  case other => exact (State.byteReg_setByteReg ..).trans ((if_neg hne).trans (hreg other))
  case flags => exact (State.setByteReg_f ..).trans (by rw [hread]; rfl)
  case cpu => rw [hwrite, hread]; rfl
  case frame => rw [hwrite, hread]; exact State.keepsAll_of_eq rfl

/-- Every store writes the operand's byte to its address, with WZ as R156 to R159 and R163 to R165 of 40_load8.md give it. -/
theorem exec_of_byteStore {i : Instr} {addr : Addr} {src : Src} {cycles : Nat} (h : byteStore i = some (addr, src, cycles))
    (s : State) : exec i s = .next (((s.memWrite (s.addrOf addr) (s.readSrc src).1).setWz
      (s.wzAfterWrite (s.readSrc src).1 addr)).took cycles) := by
  unfold byteStore at h
  split at h <;> cases h
  case h_1 | h_3 => rw [← State.memWrite_setWz]; rfl
  case h_2 | h_4 =>
    rw [← State.memWrite_setWz]
    exact congrArg (fun a => Host.Outcome.next (((s.setWz a).memWrite a _).took 19)) (s.dispAddr_eq ..)
  all_goals rfl

/-- Settles O28: by `exec_of_byteStore` one byte is written, then WZ. -/
theorem byteStores : Obligations.ByteStores := by
  unfold Obligations.ByteStores
  intro i addr src cycles s h
  refine ⟨_, exec_of_byteStore h s, rfl, ?cpu, State.stores_of_eq rfl⟩
  case cpu =>
    rw [← State.memWrite_setWz]
    exact State.memWrite_cpu ..

/-! ### Sample words -/

/-- Settles O4: the decoder evaluated on each word. -/
theorem sampleWords : Obligations.SampleWords := by
  unfold Obligations.SampleWords
  exact ⟨rfl, rfl, rfl, rfl, rfl, rfl, rfl, rfl, rfl, rfl, rfl, rfl⟩

end Sys2Proof.Machine
end

section
/-! SUPPORT. The proofs of O29, O30, O31 and O35. A word register written as one operation of the state; then every 16-bit load,
store and exchange with (SP) is one equation (41_load16_exchange.md R200 to R209, R217, R218; 44_alu16.md R354 to R357). -/

namespace Sys2Proof.Machine

/-! ### Word registers -/

/-- Writes a word register (10_state.md R21, R23, R24). -/
def State.setWordReg (s : State) (dst : WordReg) (w : Word) : State :=
  match dst with
  | .bc => s.setPair .bc w
  | .de => s.setPair .de w
  | .hl => s.setPair .hl w
  | .sp => s.setPair .sp w
  | .ix => s.setIndex .ix w
  | .iy => s.setIndex .iy w

section
variable (s : State)

theorem State.setPair_eq (rp : RegPair) (w : Word) : s.setPair rp w = s.setWordReg (pairReg rp) w := by cases rp <;> rfl

theorem State.setIndex_eq (p : IndexReg) (w : Word) : s.setIndex p w = s.setWordReg (indexReg p) w := by cases p <;> rfl

theorem State.pair_eq (rp : RegPair) : s.pair rp = s.wordReg (pairReg rp) := by cases rp <;> rfl

theorem State.index_eq (p : IndexReg) : s.index p = s.wordReg (indexReg p) := by cases p <;> rfl

/-- A write of a word register changes the main set, the index registers and SP only. -/
theorem State.setWordReg_state (dst : WordReg) (w : Word) :
    s.setWordReg dst w = { s with cpu := { s.cpu with
      main := (s.setWordReg dst w).cpu.main, ix := (s.setWordReg dst w).cpu.ix, iy := (s.setWordReg dst w).cpu.iy
      sp := (s.setWordReg dst w).cpu.sp } } := by
  cases dst <;> rfl

theorem State.wordReg_setWordReg_self (dst : WordReg) (w : Word) : (s.setWordReg dst w).wordReg dst = w := by
  cases dst with
  | bc => exact RegSet.putBC_bc ..
  | de => exact RegSet.putDE_de ..
  | hl => exact RegSet.putHL_hl ..
  | sp | ix | iy => rfl

theorem State.wordReg_setWordReg_ne {dst other : WordReg} (h : other ≠ dst) (w : Word) :
    (s.setWordReg dst w).wordReg other = s.wordReg other := by
  cases dst <;> cases other
  case bc.bc | de.de | hl.hl | sp.sp | ix.ix | iy.iy => exact absurd rfl h
  all_goals rfl

theorem State.setWordReg_a (dst : WordReg) (w : Word) : (s.setWordReg dst w).a = s.a := by cases dst <;> rfl

theorem State.setWordReg_f (dst : WordReg) (w : Word) : (s.setWordReg dst w).f = s.f := by cases dst <;> rfl

end

/-- What a write of one word register leaves in the word registers, A and F, where nothing else has changed the CPU since `s`. -/
theorem State.setWordReg_registers {s u : State} (h : u.cpu = s.cpu) (dst : WordReg) (w : Word) :
    (u.setWordReg dst w).wordReg dst = w ∧ (∀ other, other ≠ dst → (u.setWordReg dst w).wordReg other = s.wordReg other) ∧
    (u.setWordReg dst w).a = s.a ∧ (u.setWordReg dst w).f = s.f := by
  have hword (other : WordReg) : u.wordReg other = s.wordReg other := by
    cases other <;> simp only [State.wordReg, State.bc, State.de, State.hl, h]
  refine ⟨u.wordReg_setWordReg_self .., fun other hne => (u.wordReg_setWordReg_ne hne w).trans (hword other), ?_, ?_⟩
  · exact (u.setWordReg_a ..).trans (congrArg (·.main.a) h)
  · exact (u.setWordReg_f ..).trans (congrArg (·.main.f) h)

/-! ### Loads, INC and DEC -/

theorem add_one_eq_ofNat (w : Word) : w + 1 = BitVec.ofNat 16 (w.toNat + 1) := by
  simp [BitVec.ofNat_add]

theorem sub_one_eq_ofInt (w : Word) : w - 1 = BitVec.ofInt 16 (w.toNat - 1) := by
  rw [Int.sub_eq_add_neg, BitVec.ofInt_add]
  simp [BitVec.sub_eq_add_neg]

/-- Every 16-bit load of a register or an immediate, and INC and DEC, write the source's word to the destination
(41_load16_exchange.md R200, R201, R208, R209; 44_alu16.md R354 to R357). -/
theorem exec_of_wordMove {i : Instr} {dst : WordReg} {src : WordSrc} {cycles : Nat} (h : wordMove i = some (dst, src, cycles))
    (s : State) : exec i s = .next ((s.setWordReg dst (s.wordSrc src)).took cycles) := by
  unfold wordMove at h
  split at h <;> cases h
  case h_1 => rw [← State.setPair_eq]; rfl
  case h_2 => rw [← State.setIndex_eq]; rfl
  case h_3 => rfl
  case h_4 => rw [State.wordSrc, ← State.index_eq]; rfl
  case h_5 => rw [← State.setPair_eq, State.wordSrc, ← State.pair_eq, ← add_one_eq_ofNat]; rfl
  case h_6 => rw [← State.setIndex_eq, State.wordSrc, ← State.index_eq, ← add_one_eq_ofNat]; rfl
  case h_7 => rw [← State.setPair_eq, State.wordSrc, ← State.pair_eq, ← sub_one_eq_ofInt]; rfl
  case h_8 => rw [← State.setIndex_eq, State.wordSrc, ← State.index_eq, ← sub_one_eq_ofInt]; rfl

/-- Settles O29, by `exec_of_wordMove`. -/
theorem wordMoves : Obligations.WordMoves := by
  unfold Obligations.WordMoves
  intro i dst src cycles s h
  obtain ⟨hdst, hother, ha, hf⟩ := State.setWordReg_registers (rfl : s.cpu = s.cpu) dst (s.wordSrc src)
  refine ⟨_, exec_of_wordMove h s, rfl, hdst, hother, ha, hf, ?cpu, ?frame⟩
  case cpu => exact congrArg State.cpu (s.setWordReg_state ..)
  case frame =>
    rw [State.setWordReg_state]
    exact State.keepsAll_of_eq rfl

/-- Every 16-bit load from memory reads the word, writes it to the destination and leaves nn + 1 in WZ (41_load16_exchange.md
R202 to R204). -/
theorem exec_of_wordLoad {i : Instr} {dst : WordReg} {nn : Word} {cycles : Nat} (h : wordLoad i = some (dst, nn, cycles))
    (s : State) :
    exec i s = .next ((((s.memRead16 nn).2.setWordReg dst (s.memRead16 nn).1).setWz (nn + 1)).took cycles) := by
  unfold wordLoad at h
  split at h <;> cases h
  case h_1 => rfl
  case h_2 => rw [← State.setIndex_eq]; rfl
  case h_3 => rw [← State.setPair_eq]; rfl

/-- Settles O30: by `exec_of_wordLoad` a word is read, low byte first, and the destination written. -/
theorem wordLoads : Obligations.WordLoads := by
  unfold Obligations.WordLoads
  intro i dst nn cycles s h
  obtain ⟨hdst, hother, ha, hf⟩ := State.setWordReg_registers (s.memRead16_cpu nn) dst (s.memRead16 nn).1
  refine ⟨_, exec_of_wordLoad h s, rfl, hdst, hother, ha, hf, ?cpu, ?frame⟩
  case cpu =>
    rw [State.setWordReg_state, State.memRead16_eq]
    rfl
  case frame =>
    rw [State.setWordReg_state, State.memRead16_eq]
    exact State.keepsAll_of_eq rfl

/-! ### Stores -/

/-- Every 16-bit store writes the register's word at nn and leaves nn + 1 in WZ (41_load16_exchange.md R205 to R207). -/
theorem exec_of_wordStore {i : Instr} {nn : Word} {src : WordReg} {cycles : Nat} (h : wordStore i = some (nn, src, cycles))
    (s : State) : exec i s = .next (((s.memWrite16 nn (s.wordReg src)).setWz (nn + 1)).took cycles) := by
  unfold wordStore at h
  split at h <;> cases h
  case h_1 => rfl
  case h_2 => rw [← State.index_eq]; rfl
  case h_3 => rw [← State.pair_eq]; rfl

/-- Settles O31: by `exec_of_wordStore` the two bytes are written, the low one first, then WZ. -/
theorem wordStores : Obligations.WordStores := by
  unfold Obligations.WordStores
  intro i nn src cycles s h
  refine ⟨_, exec_of_wordStore h s, rfl, ?cpu, State.stores_of_eq rfl⟩
  case cpu => exact congrArg (fun c : Cpu => { c with wz := nn + 1 }) (s.memWrite16_cpu ..)

/-! ### Exchanges with the top of the stack -/

/-- What an exchange with (SP) does: the word read there, low byte first, then the other word written, low byte last
(41_load16_exchange.md R217). -/
theorem State.exchangeSP_eq (s : State) (w : Word) :
    let high := (s.memRead s.cpu.sp).2.memRead (s.cpu.sp + 1)
    let u := State.writeAll [(s.cpu.sp + 1, hi w), (s.cpu.sp, lo w)] { s with io := high.2.io }
    s.exchangeSP w = (high.1 ++ (s.memRead s.cpu.sp).1, { s with mem := u.mem, io := u.io, draws := high.2.draws }) := by
  intro high u
  have hread : (s.memRead16 s.cpu.sp).2 = { s with io := high.2.io, draws := high.2.draws } :=
    congrArg Prod.snd (s.memRead16_eq s.cpu.sp)
  refine Prod.ext rfl ?_
  calc (s.exchangeSP w).2
      = State.writeAll [(s.cpu.sp + 1, hi w), (s.cpu.sp, lo w)] (s.memRead16 s.cpu.sp).2 := rfl
    _ = { u with cpu := s.cpu, draws := high.2.draws, stepCycles := s.stepCycles } := by
      rw [hread]
      exact State.writeAll_withCpu _ { s with io := high.2.io } s.cpu high.2.draws s.stepCycles
    _ = _ := by
      rw [show u = _ from State.writeAll_state ..]

/-- Every EX (SP) exchanges the register with the word at SP, which WZ takes too (41_load16_exchange.md R217, R218). -/
theorem exec_of_exchangeOf {i : Instr} {reg : WordReg} {cycles : Nat} (h : exchangeOf i = some (reg, cycles)) (s : State) :
    exec i s = .next ((((s.exchangeSP (s.wordReg reg)).2.setWordReg reg (s.exchangeSP (s.wordReg reg)).1).setWz
      (s.exchangeSP (s.wordReg reg)).1).took cycles) := by
  unfold exchangeOf at h
  split at h <;> cases h
  case h_1 => rfl
  case h_2 => rw [← State.setIndex_eq, ← State.index_eq]; rfl

theorem exchangeOf_ne_sp {i : Instr} {reg : WordReg} {cycles : Nat} (h : exchangeOf i = some (reg, cycles)) : .sp ≠ reg := by
  unfold exchangeOf at h
  split at h <;> cases h
  case h_1 => decide
  case h_2 p => cases p <;> decide

/-- Settles O35: by `exec_of_exchangeOf` the word at SP is exchanged, and SP, another word register, stays. -/
theorem stackExchanges : Obligations.StackExchanges := by
  unfold Obligations.StackExchanges
  intro i reg cycles s h
  have hex := s.exchangeSP_eq (s.wordReg reg)
  have hcpu : (s.exchangeSP (s.wordReg reg)).2.cpu = s.cpu := by rw [hex]
  obtain ⟨hreg, hother, ha, hf⟩ := State.setWordReg_registers hcpu reg (s.exchangeSP (s.wordReg reg)).1
  have hsp : ((s.exchangeSP (s.wordReg reg)).2.setWordReg reg (s.exchangeSP (s.wordReg reg)).1).cpu.sp = s.cpu.sp :=
    hother .sp (exchangeOf_ne_sp h)
  refine ⟨_, exec_of_exchangeOf h s, rfl, hreg, hother, ha, hf, ?cpu, State.stores_of_eq ?frame⟩
  case cpu =>
    rw [State.setWordReg_state, hsp, hex]
    rfl
  case frame =>
    rw [State.setWordReg_state, hex, State.writeAll_state]
    rfl

end Sys2Proof.Machine
end

section
/-! SUPPORT. The proofs of O32, O33 and O34. What PUSH and POP name as a word of the state, read and written; then every PUSH and
every POP is one equation (41_load16_exchange.md R210 to R213). The exchanges EX DE,HL, EX AF,AF' and EXX move the bytes of the
pairs, which are the bytes of the words (R214 to R216). -/

namespace Sys2Proof.Machine

/-! ### The words of PUSH and POP -/

/-- Writes a word that POP names: one of rp2[ ], or an index register (30_encoding.md R104, R109). -/
def State.setStackReg (s : State) (dst : StackReg) (w : Word) : State :=
  match dst with
  | .bc => s.setStackPair .bc w
  | .de => s.setStackPair .de w
  | .hl => s.setStackPair .hl w
  | .af => s.setStackPair .af w
  | .ix => s.setIndex .ix w
  | .iy => s.setIndex .iy w

section
variable (s : State)

theorem State.setStackPair_eq (rp : StackPair) (w : Word) : s.setStackPair rp w = s.setStackReg (stackPairReg rp) w := by
  cases rp <;> rfl

theorem State.setIndex_eq_setStackReg (p : IndexReg) (w : Word) : s.setIndex p w = s.setStackReg (indexStackReg p) w := by
  cases p <;> rfl

theorem State.stackPair_eq (rp : StackPair) : s.stackPair rp = s.stackReg (stackPairReg rp) := by cases rp <;> rfl

theorem State.index_eq_stackReg (p : IndexReg) : s.index p = s.stackReg (indexStackReg p) := by cases p <;> rfl

/-- A write of a word that POP names changes the main set, the index registers and the count of draws only. -/
theorem State.setStackReg_state (dst : StackReg) (w : Word) :
    s.setStackReg dst w = { s with
      cpu := { s.cpu with
        main := (s.setStackReg dst w).cpu.main, ix := (s.setStackReg dst w).cpu.ix, iy := (s.setStackReg dst w).cpu.iy }
      draws := (s.setStackReg dst w).draws } := by
  cases dst with
  | af =>
    simp only [State.setStackReg, State.setStackPair]
    rw [State.writeAF_state]
  | bc | de | hl | ix | iy => rfl

/-- Writing AF writes A, and F as 00_scope.md R13 says. -/
theorem State.writeAF_registers (w : Word) : (s.writeAF w).a = hi w ∧ (s.writeAF w).fWritten (lo w) :=
  ⟨by rw [State.writeAF_state]; rfl, State.writeFlags_fWritten ..⟩

/-- The word written is read back, and from AF as 00_scope.md R13 says. -/
theorem State.setStackReg_self (dst : StackReg) (w : Word) :
    if dst = .af then (s.setStackReg dst w).a = hi w ∧ (s.setStackReg dst w).fWritten (lo w)
    else (s.setStackReg dst w).stackReg dst = w := by
  cases dst with
  | af => exact s.writeAF_registers w
  | bc => exact RegSet.putBC_bc ..
  | de => exact RegSet.putDE_de ..
  | hl => exact RegSet.putHL_hl ..
  | ix | iy => rfl

theorem State.stackReg_setStackReg_ne {dst other : StackReg} (h : other ≠ dst) (w : Word) :
    (s.setStackReg dst w).stackReg other = s.stackReg other := by
  cases dst <;> cases other
  case bc.bc | de.de | hl.hl | af.af | ix.ix | iy.iy => exact absurd rfl h
  case af.bc | af.de | af.hl | af.ix | af.iy =>
    simp only [State.setStackReg, State.setStackPair]
    rw [State.writeAF_state]
    rfl
  all_goals rfl

end

/-! ### PUSH and POP -/

/-- Every PUSH pushes the word it names (41_load16_exchange.md R210, R211). -/
theorem exec_of_pushOf {i : Instr} {src : StackReg} {cycles : Nat} (h : pushOf i = some (src, cycles)) (s : State) :
    exec i s = .next ((s.push (s.stackReg src)).took cycles) := by
  unfold pushOf at h
  split at h <;> cases h
  case h_1 => rw [← State.stackPair_eq]; rfl
  case h_2 => rw [← State.index_eq_stackReg]; rfl

/-- Settles O32, by `exec_of_pushOf` and what a push does. -/
theorem pushes : Obligations.Pushes := by
  unfold Obligations.Pushes
  intro i src cycles s h
  refine ⟨_, exec_of_pushOf h s, rfl, ?cpu, State.stores_of_eq ?frame⟩
  case cpu =>
    rw [State.push_eq]
    rfl
  case frame =>
    rw [State.push_eq, State.writeAll_state]
    rfl

/-- Every POP pops the word it names (41_load16_exchange.md R212, R213). -/
theorem exec_of_popOf {i : Instr} {dst : StackReg} {cycles : Nat} (h : popOf i = some (dst, cycles)) (s : State) :
    exec i s = .next ((s.pop.2.setStackReg dst s.pop.1).took cycles) := by
  unfold popOf at h
  split at h <;> cases h
  case h_1 => rw [← State.setStackPair_eq]; rfl
  case h_2 => rw [← State.setIndex_eq_setStackReg]; rfl

/-- Settles O33: by `exec_of_popOf` the word at SP is read, low byte first, and written to the destination. -/
theorem pops : Obligations.Pops := by
  unfold Obligations.Pops
  intro i dst cycles s h low high
  have hpop := s.pop_eq
  have hdst := s.pop.2.setStackReg_self dst s.pop.1
  refine ⟨_, exec_of_popOf h s, rfl, ?dst, fun other hne => ?other, ?cpu, ?frame⟩
  case dst =>
    have hword : s.pop.1 = high.1 ++ low.1 := by rw [hpop]
    rw [hword, hi_append, lo_append] at hdst
    rw [hword]
    exact hdst
  case other =>
    refine (s.pop.2.stackReg_setStackReg_ne hne s.pop.1).trans ?_
    rw [hpop]
    cases other <;> rfl
  case cpu =>
    rw [State.setStackReg_state, hpop]
    rfl
  case frame =>
    rw [State.setStackReg_state, hpop]
    exact State.keepsAll_of_eq rfl

/-! ### EX DE,HL, EX AF,AF' and EXX: a pair moved to a pair moves its two bytes (10_state.md R21) -/

@[simp] theorem RegSet.hi_bc (m : RegSet) : hi m.bc = m.b := hi_joinBytes ..
@[simp] theorem RegSet.lo_bc (m : RegSet) : lo m.bc = m.c := lo_joinBytes ..
@[simp] theorem RegSet.hi_de (m : RegSet) : hi m.de = m.d := hi_joinBytes ..
@[simp] theorem RegSet.lo_de (m : RegSet) : lo m.de = m.e := lo_joinBytes ..
@[simp] theorem RegSet.hi_hl (m : RegSet) : hi m.hl = m.h := hi_joinBytes ..
@[simp] theorem RegSet.lo_hl (m : RegSet) : lo m.hl = m.l := lo_joinBytes ..
@[simp] theorem RegSet.hi_af (m : RegSet) : hi m.af = m.a := hi_joinBytes ..
@[simp] theorem RegSet.lo_af (m : RegSet) : lo m.af = m.f := lo_joinBytes ..

theorem RegSet.putAF_af_eq (m m' : RegSet) : m.putAF m'.af = { m with a := m'.a, f := m'.f } := by
  simp only [RegSet.putAF, RegSet.hi_af, RegSet.lo_af]

theorem RegSet.putDE_putHL_swapped (m : RegSet) :
    (m.putDE m.hl).putHL m.de = { m with d := m.h, e := m.l, h := m.d, l := m.e } := by
  simp only [RegSet.putDE, RegSet.putHL, RegSet.hi_de, RegSet.lo_de, RegSet.hi_hl, RegSet.lo_hl]

/-- The pairs BC, DE and HL of another set, with A and F of this one. -/
theorem RegSet.putPairs_eq (m m' : RegSet) :
    ((m.putBC m'.bc).putDE m'.de).putHL m'.hl = { m' with a := m.a, f := m.f } := by
  simp only [RegSet.putBC, RegSet.putDE, RegSet.putHL, RegSet.hi_bc, RegSet.lo_bc, RegSet.hi_de, RegSet.lo_de, RegSet.hi_hl,
    RegSet.lo_hl]

/-- EX DE,HL byte by byte (41_load16_exchange.md R214). -/
theorem exec_exDEHL (s : State) :
    exec .exDEHL s = .next ((s.setMain { s.cpu.main with
      d := s.cpu.main.h, e := s.cpu.main.l, h := s.cpu.main.d, l := s.cpu.main.e }).took 4) :=
  congrArg (fun m => Host.Outcome.next ((s.setMain m).took 4)) s.cpu.main.putDE_putHL_swapped

/-- EX AF,AF': AF is written as POP AF writes it, and the shadow pair takes A and F as they were (41_load16_exchange.md R215). -/
theorem exec_exAFAF (s : State) :
    exec .exAFAF s = .next (((s.writeAF s.cpu.shadow.af).setShadow
      { s.cpu.shadow with a := s.cpu.main.a, f := s.cpu.main.f }).took 4) :=
  congrArg (fun m => Host.Outcome.next (((s.writeAF s.cpu.shadow.af).setShadow m).took 4)) (s.cpu.shadow.putAF_af_eq s.cpu.main)

/-- EXX: each set takes the other, and keeps its own A and F (41_load16_exchange.md R216). -/
theorem exec_exx (s : State) :
    exec .exx s = .next (((s.setMain { s.cpu.shadow with a := s.cpu.main.a, f := s.cpu.main.f }).setShadow
      { s.cpu.main with a := s.cpu.shadow.a, f := s.cpu.shadow.f }).took 4) := by
  rw [← RegSet.putPairs_eq s.cpu.main s.cpu.shadow, ← RegSet.putPairs_eq s.cpu.shadow s.cpu.main]
  rfl

/-- Settles O34, by the equation of each exchange. -/
theorem exchanges : Obligations.Exchanges := by
  unfold Obligations.Exchanges
  refine ⟨rfl, rfl, rfl, fun s => ⟨exec_exDEHL s, fun hexact => ?exact, ?general, exec_exx s⟩⟩
  case exact =>
    rw [exec_exAFAF, State.writeAF_exact s _ hexact, RegSet.putAF_af_eq]
    rfl
  case general =>
    have hstate := s.writeAF_state s.cpu.shadow.af
    obtain ⟨-, hf⟩ := s.writeAF_registers s.cpu.shadow.af
    rw [RegSet.lo_af] at hf
    rw [RegSet.hi_af] at hstate
    refine ⟨_, exec_exAFAF s, rfl, hf, ?_, ?_⟩
    · rw [hstate]
      rfl
    · rw [hstate]
      exact State.keepsAll_of_eq rfl

end Sys2Proof.Machine
end

section
/-! SUPPORT. The proofs of O36 and O37. Every block copy and every block search is one equation: its body with the step of its
addresses, then an end that goes again or counts 16 cycles (42_block.md R250 to R258). What the bodies and the end leave is said
once for each. -/

namespace Sys2Proof.Machine

/-! ### The step of an address -/

/-- What a block instruction adds to its addresses (42_block.md R250, R251). -/
def BlockKind.step (k : BlockKind) : Word := if k.up then 1 else -1

theorem BlockKind.next_eq (k : BlockKind) (w : Word) : k.next w = w + k.step := by
  unfold BlockKind.next BlockKind.step
  rw [BitVec.ofInt_add]
  cases k.up <;> simp

/-! ### The end of an iteration -/

/-- The end of a block copy or search: PC back at A0 and WZ one past it where it goes `again`, else 16 cycles (42_block.md R252,
R256, R258). -/
def State.endBlock (s : State) (again : Bool) : State :=
  if again then (s.setWz (s.cpu.pc - 1)).repeatInstr else s.took 16

section
variable (s : State) (again : Bool)

/-- The end writes PC, WZ and the cycles only. -/
theorem State.endBlock_state :
    s.endBlock again = { s with
      cpu := { s.cpu with pc := (s.endBlock again).cpu.pc, wz := (s.endBlock again).cpu.wz }
      stepCycles := (s.endBlock again).stepCycles } := by
  cases again <;> rfl

@[simp] theorem State.endBlock_cfg : (s.endBlock again).cfg = s.cfg := by cases again <;> rfl
@[simp] theorem State.endBlock_main : (s.endBlock again).cpu.main = s.cpu.main := by cases again <;> rfl
@[simp] theorem State.endBlock_f : (s.endBlock again).f = s.f := congrArg RegSet.f (s.endBlock_main again)
@[simp] theorem State.endBlock_hl : (s.endBlock again).hl = s.hl := congrArg RegSet.hl (s.endBlock_main again)
@[simp] theorem State.endBlock_de : (s.endBlock again).de = s.de := congrArg RegSet.de (s.endBlock_main again)
@[simp] theorem State.endBlock_bc : (s.endBlock again).bc = s.bc := congrArg RegSet.bc (s.endBlock_main again)
@[simp] theorem State.endBlock_a : (s.endBlock again).a = s.a := congrArg RegSet.a (s.endBlock_main again)

end

/-- Where the end leaves PC and WZ, and its cycles, for a condition `p` that decides whether the instruction goes again. -/
theorem State.endBlock_progress {s : State} {pc wz : Word} (hpc : s.cpu.pc = pc) (hwz : s.cpu.wz = wz) {again : Bool} {p : Prop}
    [Decidable p] (hagain : again = true ↔ p) :
    if p then (s.endBlock again).cpu.pc = pc - 2 ∧ (s.endBlock again).cpu.wz = pc - 2 + 1 ∧ (s.endBlock again).stepCycles = 21
    else (s.endBlock again).cpu.pc = pc ∧ (s.endBlock again).cpu.wz = wz ∧ (s.endBlock again).stepCycles = 16 := by
  subst hpc hwz
  split
  case isTrue hp =>
    have hpast : s.cpu.pc - 1 = s.cpu.pc - 2 + 1 := by bv_omega
    rw [hagain.2 hp]
    exact ⟨rfl, hpast, rfl⟩
  case isFalse hp =>
    rw [Bool.eq_false_iff.2 (mt hagain.1 hp)]
    exact ⟨rfl, rfl, rfl⟩

/-! ### Copies -/

/-- The main set with HL and DE stepped and BC counted down (42_block.md R250). -/
def RegSet.copied (m : RegSet) (step : Word) : RegSet :=
  ((m.putHL (m.hl + step)).putDE (m.de + step)).putBC (m.bc - 1)

theorem RegSet.copied_words (m : RegSet) (step : Word) :
    (m.copied step).hl = m.hl + step ∧ (m.copied step).de = m.de + step ∧ (m.copied step).bc = m.bc - 1 :=
  ⟨joinBytes_hi_lo _, joinBytes_hi_lo _, joinBytes_hi_lo _⟩

section
variable (s : State)

/-- A read, then a write: the write reaches the devices as the read left them. -/
theorem State.memWrite_after_memRead (a b : Word) (v : Byte) :
    (s.memRead a).2.memWrite b v =
      { State.writeAll [(b, v)] { s with io := (s.memRead a).2.io } with cpu := s.cpu, draws := (s.memRead a).2.draws } := by
  conv => lhs; rw [State.memRead_state]
  refine (State.writeAll_withCpu [(b, v)] { s with io := (s.memRead a).2.io } s.cpu _ s.stepCycles).trans ?_
  rw [State.writeAll_state]

variable (step : Word)

/-- A copy reads (HL), writes the byte at (DE), steps the registers and writes F (42_block.md R250). -/
theorem State.copyStep_eq :
    s.copyStep step = (((s.memRead s.hl).2.memWrite s.de (s.memRead s.hl).1).setMain (s.cpu.main.copied step)).writeFlags
      (ldiFlags s.a (s.memRead s.hl).1 (s.bc - 1) s.f) := by
  obtain ⟨-, -, hbc⟩ := s.cpu.main.copied_words step
  unfold State.copyStep
  simp only [State.memWrite_cpu, State.memRead_cpu]
  change State.writeFlags _ (ldiFlags s.a _ (s.cpu.main.copied step).bc s.f) = _
  rw [hbc]
  rfl

/-- In the CPU, a copy writes the main set only. -/
theorem State.copyStep_cpu :
    (s.copyStep step).cpu = { s.cpu with main := { s.cpu.main.copied step with f := (s.copyStep step).f } } := by
  rw [State.copyStep_eq, State.writeFlags_state, State.memWrite_after_memRead]
  rfl

theorem State.copyStep_registers :
    (s.copyStep step).hl = s.hl + step ∧ (s.copyStep step).de = s.de + step ∧ (s.copyStep step).bc = s.bc - 1 ∧
    (s.copyStep step).a = s.a := by
  obtain ⟨hhl, hde, hbc⟩ := s.cpu.main.copied_words step
  simp only [State.hl, State.de, State.bc, State.a, State.copyStep_cpu]
  exact ⟨hhl, hde, hbc, rfl⟩

theorem State.copyStep_flags :
    (s.copyStep step).flagsAre ⟨flagS s.f, flagZ s.f, false, s.bc - 1 != 0, false, flagC s.f,
      (s.a + (s.memRead s.hl).1).getLsbD 1, (s.a + (s.memRead s.hl).1).getLsbD 3⟩ := by
  rw [State.copyStep_eq]
  exact State.writeFlags_flagsAre ..

/-- Outside the CPU and the count of draws, a copy is its one store. -/
theorem State.copyStep_frame :
    s.copyStep step = { State.writeAll [(s.de, (s.memRead s.hl).1)] { s with io := (s.memRead s.hl).2.io } with
      cpu := (s.copyStep step).cpu
      draws := (s.copyStep step).draws } := by
  rw [State.copyStep_eq, State.writeFlags_state, State.memWrite_after_memRead]
  rfl

end

/-- Every block copy is its body, then the end, which goes again in a repeating form while BC is not 0 (42_block.md R250 to
R253). -/
theorem exec_of_blockCopy {i : Instr} {k : BlockKind} (h : blockCopy i = some k) (s : State) :
    exec i s = .next ((s.copyStep k.step).endBlock (k.repeats && (s.copyStep k.step).bc != 0)) := by
  unfold blockCopy at h
  split at h <;> cases h <;> rfl

/-- Settles O36: by `exec_of_blockCopy`, what a copy's body and the end leave. -/
theorem blockCopies : Obligations.BlockCopies := by
  unfold Obligations.BlockCopies
  intro i k s h byte
  have hcpu := s.copyStep_cpu k.step
  obtain ⟨hhl, hde, hbc, ha⟩ := s.copyStep_registers k.step
  refine ⟨_, exec_of_blockCopy h s, ?hl, ?de, ?bc, ?a, ?flags, ?cpu, ?progress, State.stores_of_eq ?frame⟩
  case hl => rw [State.endBlock_hl, hhl, k.next_eq]
  case de => rw [State.endBlock_de, hde, k.next_eq]
  case bc => rw [State.endBlock_bc, hbc, sub_one_eq_ofInt]
  case a => rw [State.endBlock_a, ha]
  case flags =>
    rw [State.endBlock_bc, hbc]
    exact State.flagsAre_congr (State.endBlock_f ..) (State.endBlock_cfg ..) (s.copyStep_flags k.step)
  case cpu => rw [State.endBlock_state, hcpu]
  case progress => exact State.endBlock_progress (congrArg Cpu.pc hcpu) (congrArg Cpu.wz hcpu) (by simp)
  case frame => rw [State.endBlock_state, State.copyStep_frame]

/-! ### Searches -/

/-- The main set with HL stepped and BC counted down (42_block.md R254). -/
def RegSet.searched (m : RegSet) (step : Word) : RegSet := (m.putHL (m.hl + step)).putBC (m.bc - 1)

theorem RegSet.searched_words (m : RegSet) (step : Word) :
    (m.searched step).hl = m.hl + step ∧ (m.searched step).bc = m.bc - 1 :=
  ⟨joinBytes_hi_lo _, joinBytes_hi_lo _⟩

theorem and_0x0F_toNat (v : Byte) : (v &&& 0x0F).toNat = v.toNat % 16 := by
  rw [BitVec.toNat_and]
  exact Nat.and_two_pow_sub_one_eq_mod v.toNat 4

theorem sub_beq_zero (a v : Byte) : (a - v == 0) = (a == v) := by
  rw [Bool.eq_iff_iff, beq_iff_eq, beq_iff_eq]
  exact sub_eq_zero

/-- A difference of bytes less one more bit, as the difference of the integers modulo 2^8. -/
theorem sub_sub_ofBool (a v : Byte) (b : Bool) :
    a - v - (BitVec.ofBool b).setWidth 8 = BitVec.ofInt 8 (a.toNat - v.toNat - (b.toNat : Int)) := by
  rw [Int.sub_eq_add_neg, Int.sub_eq_add_neg, BitVec.ofInt_add, BitVec.ofInt_add, BitVec.ofInt_neg, BitVec.ofInt_neg]
  cases b <;> simp [BitVec.sub_eq_add_neg]

section
variable (s : State)

/-- The flags that `writeFlags` leaves of those of a search (42_block.md R254). -/
theorem State.writeFlags_cpiFlags (a v : Byte) (bc : Word) :
    let half := decide (a.toNat % 16 < v.toNat % 16)
    let n := BitVec.ofInt 8 (a.toNat - v.toNat - (half.toNat : Int))
    (s.writeFlags (cpiFlags a v bc s.f)).flagsAre
      ⟨decide ((a - v).toInt < 0), a == v, half, bc != 0, true, flagC s.f, n.getLsbD 1, n.getLsbD 3⟩ := by
  intro half n
  have hhalf : decide ((a &&& 0x0F).toNat < (v &&& 0x0F).toNat) = half := by rw [and_0x0F_toNat, and_0x0F_toNat]
  have hn : a - v - (BitVec.ofBool half).setWidth 8 = n := sub_sub_ofBool ..
  unfold cpiFlags
  simp only [hhalf, hn, sub_beq_zero]
  rw [← getLsbD_seven_eq_neg]
  exact s.writeFlags_flagsAre ..

variable (step : Word)

/-- A search reads (HL), steps the registers and WZ, and writes F (42_block.md R254). -/
theorem State.searchStep_eq :
    (s.searchStep step).2 = (((s.memRead s.hl).2.setMain (s.cpu.main.searched step)).setWz (s.cpu.wz + step)).writeFlags
      (cpiFlags s.a (s.memRead s.hl).1 (s.bc - 1) s.f) := by
  obtain ⟨-, hbc⟩ := s.cpu.main.searched_words step
  unfold State.searchStep
  simp only [State.memRead_cpu]
  change State.writeFlags _ (cpiFlags s.a _ (s.cpu.main.searched step).bc s.f) = _
  rw [hbc]
  rfl

/-- In the CPU, a search writes the main set and WZ only. -/
theorem State.searchStep_cpu :
    (s.searchStep step).2.cpu = { s.cpu with
      main := { s.cpu.main.searched step with f := (s.searchStep step).2.f }, wz := s.cpu.wz + step } := by
  rw [State.searchStep_eq, State.writeFlags_state, State.memRead_state]
  rfl

theorem State.searchStep_registers :
    (s.searchStep step).2.hl = s.hl + step ∧ (s.searchStep step).2.bc = s.bc - 1 ∧ (s.searchStep step).2.de = s.de ∧
    (s.searchStep step).2.a = s.a := by
  obtain ⟨hhl, hbc⟩ := s.cpu.main.searched_words step
  simp only [State.hl, State.de, State.bc, State.a, State.searchStep_cpu]
  exact ⟨hhl, hbc, rfl, rfl⟩

theorem State.searchStep_flags :
    let byte := (s.memRead s.hl).1
    let half := decide (s.a.toNat % 16 < byte.toNat % 16)
    let n := BitVec.ofInt 8 (s.a.toNat - byte.toNat - (half.toNat : Int))
    (s.searchStep step).2.flagsAre
      ⟨decide ((s.a - byte).toInt < 0), s.a == byte, half, s.bc - 1 != 0, true, flagC s.f, n.getLsbD 1, n.getLsbD 3⟩ := by
  rw [State.searchStep_eq]
  exact State.writeFlags_cpiFlags ..

/-- Outside the CPU and the count of draws, a search is its one read. -/
theorem State.searchStep_frame :
    (s.searchStep step).2 = { s with
      cpu := (s.searchStep step).2.cpu
      io := (s.memRead s.hl).2.io
      draws := (s.searchStep step).2.draws } := by
  rw [State.searchStep_eq, State.writeFlags_state, State.memRead_state]
  rfl

end

/-- Every block search is its body, then the end, which goes again in a repeating form while BC is not 0 and A is not the byte
read (42_block.md R254 to R257). -/
theorem exec_of_blockSearch {i : Instr} {k : BlockKind} (h : blockSearch i = some k) (s : State) :
    exec i s = .next ((s.searchStep k.step).2.endBlock
      (k.repeats && ((s.searchStep k.step).2.bc != 0 && (s.searchStep k.step).2.a - (s.memRead s.hl).1 != 0))) := by
  unfold blockSearch at h
  split at h <;> cases h <;> rfl

/-- Settles O37: by `exec_of_blockSearch`, what a search's body and the end leave. -/
theorem blockSearches : Obligations.BlockSearches := by
  unfold Obligations.BlockSearches
  intro i k s h byte half n
  have hcpu := s.searchStep_cpu k.step
  obtain ⟨hhl, hbc, hde, ha⟩ := s.searchStep_registers k.step
  refine ⟨_, exec_of_blockSearch h s, ?hl, ?bc, ?de, ?a, ?flags, ?cpu, ?progress, State.keepsAll_of_eq ?frame⟩
  case hl => rw [State.endBlock_hl, hhl, k.next_eq]
  case bc => rw [State.endBlock_bc, hbc, sub_one_eq_ofInt]
  case de => rw [State.endBlock_de, hde]
  case a => rw [State.endBlock_a, ha]
  case flags =>
    rw [State.endBlock_bc, hbc]
    exact State.flagsAre_congr (State.endBlock_f ..) (State.endBlock_cfg ..) (s.searchStep_flags k.step)
  case cpu => rw [State.endBlock_state, hcpu]
  case progress =>
    refine State.endBlock_progress (congrArg Cpu.pc hcpu) ((congrArg Cpu.wz hcpu).trans (k.next_eq _).symm) ?_
    have hmatch : (s.a - byte != 0) = (s.a != byte) := congrArg not (sub_beq_zero ..)
    rw [ha, hmatch]
    simp
  case frame => rw [State.endBlock_state, State.searchStep_frame]

end Sys2Proof.Machine
end

section
/-! SUPPORT. Sums with a carry and differences with a borrow, at every width: the bits carried or borrowed into a place and the
signed overflow, which the rules write with exclusive or (43_alu8.md R300). A difference is the sum with the complement, so what is
said of sums gives what is said of differences. -/

namespace Sys2Proof.Machine

section
variable {w i : Nat} (x y : BitVec w) (c : Bool)

theorem ofNat_add_add_bool :
    BitVec.ofNat w (x.toNat + y.toNat + c.toNat) = x + y + (BitVec.ofBool c).setWidth w := by
  apply BitVec.eq_of_toNat_eq
  simp

/-- A difference less a borrow is the sum with the complements of both. -/
theorem ofInt_sub_sub_bool :
    BitVec.ofInt w (x.toNat - y.toNat - c.toNat) = BitVec.ofNat w (x.toNat + (~~~y).toNat + (!c).toNat) := by
  have hy : ((~~~y).toNat : Int) = 2 ^ w - 1 - y.toNat := by
    have := y.isLt
    rw [BitVec.toNat_not, Nat.cast_sub (by omega), Nat.cast_sub Nat.one_le_two_pow]
    simp
  have hc : ((!c).toNat : Int) = 1 - c.toNat := by cases c <;> rfl
  have hsum : ((x.toNat + (~~~y).toNat + (!c).toNat : Nat) : Int) = x.toNat - y.toNat - c.toNat + (2 ^ w : Nat) := by
    push_cast
    rw [hy, hc]
    ring
  apply BitVec.eq_of_toInt_eq
  rw [← BitVec.ofInt_natCast, hsum, BitVec.toInt_ofInt, BitVec.toInt_ofInt, Int.add_bmod_right]

/-- The bit that a sum carries into place `i`. -/
theorem getLsbD_xor_xor_add (hi : i < w) :
    (x ^^^ y ^^^ BitVec.ofNat w (x.toNat + y.toNat + c.toNat)).getLsbD i =
      decide (2 ^ i ≤ x.toNat % 2 ^ i + y.toNat % 2 ^ i + c.toNat) := by
  rw [ofNat_add_add_bool, BitVec.getLsbD_xor, BitVec.getLsbD_xor, BitVec.getLsbD_add_add_bool hi, BitVec.carry]
  cases x.getLsbD i <;> cases y.getLsbD i <;> simp

theorem toNat_not_mod (hi : i ≤ w) : (~~~y).toNat % 2 ^ i = 2 ^ i - 1 - y.toNat % 2 ^ i := by
  rw [← BitVec.toNat_setWidth, BitVec.setWidth_not hi, BitVec.toNat_not, BitVec.toNat_setWidth]

/-- The bit that a difference borrows from place `i`. -/
theorem getLsbD_xor_xor_sub (hi : i < w) :
    (x ^^^ y ^^^ BitVec.ofInt w (x.toNat - y.toNat - c.toNat)).getLsbD i =
      decide (x.toNat % 2 ^ i < y.toNat % 2 ^ i + c.toNat) := by
  have hcarry := getLsbD_xor_xor_add x (~~~y) (!c) hi
  have hy : y.toNat % 2 ^ i < 2 ^ i := Nat.mod_lt _ (Nat.two_pow_pos i)
  have hc : (!c).toNat = 1 - c.toNat := by cases c <;> rfl
  have hc' := c.toNat_le
  rw [← ofInt_sub_sub_bool, toNat_not_mod y hi.le, hc] at hcarry
  rw [BitVec.getLsbD_xor, BitVec.getLsbD_xor, BitVec.getLsbD_not, decide_eq_true hi] at hcarry
  rw [BitVec.getLsbD_xor, BitVec.getLsbD_xor]
  have hborrow : decide (x.toNat % 2 ^ i < y.toNat % 2 ^ i + c.toNat) =
      !decide (2 ^ i ≤ x.toNat % 2 ^ i + (2 ^ i - 1 - y.toNat % 2 ^ i) + (1 - c.toNat)) := by
    rw [← decide_not, decide_eq_decide]
    omega
  rw [hborrow, ← hcarry]
  simp

end

section
variable {w : Nat} (x y : BitVec (w + 1)) (c : Bool)

/-- A signed number is its low bits less the weight of its sign. -/
theorem toInt_eq_mod_sub_sign : x.toInt = (x.toNat % 2 ^ w : Nat) - (if x.getLsbD w then 2 ^ w else 0 : Nat) := by
  have hx := x.isLt
  have hsign : x.getLsbD w = decide (2 ^ w ≤ x.toNat) := x.msb_eq_getLsbD_last.symm.trans x.msb_eq_decide
  rw [pow_succ] at hx
  rw [BitVec.toInt_eq_msb_cond, x.msb_eq_getLsbD_last, Nat.add_sub_cancel, hsign, pow_succ]
  simp only [decide_eq_true_eq]
  split
  case isTrue h => rw [Nat.mod_eq_sub_mod h, Nat.mod_eq_of_lt (by omega)]; omega
  case isFalse h => rw [Nat.mod_eq_of_lt (by omega)]; omega

theorem toInt_not_eq : (~~~y).toInt = -1 - y.toInt := by
  have hy : y.toNat % 2 ^ w < 2 ^ w := Nat.mod_lt _ (Nat.two_pow_pos w)
  rw [toInt_eq_mod_sub_sign, toInt_eq_mod_sub_sign, toNat_not_mod y (Nat.le_succ w), BitVec.getLsbD_not,
    decide_eq_true (Nat.lt_succ_self w)]
  generalize 2 ^ w = p at *
  generalize y.toNat % p = b at *
  cases y.getLsbD w <;> simp <;> omega

/-- A sum overflows as a signed number where both signs differ from the sign of the result. -/
theorem getLsbD_overflow_add :
    ((x ^^^ BitVec.ofNat (w + 1) (x.toNat + y.toNat + c.toNat)) &&&
        (y ^^^ BitVec.ofNat (w + 1) (x.toNat + y.toNat + c.toNat))).getLsbD w =
      decide (x.toInt + y.toInt + c.toNat < -(2 ^ w : Nat) ∨ (2 ^ w : Nat) ≤ x.toInt + y.toInt + c.toNat) := by
  have hx : x.toNat % 2 ^ w < 2 ^ w := Nat.mod_lt _ (Nat.two_pow_pos w)
  have hy : y.toNat % 2 ^ w < 2 ^ w := Nat.mod_lt _ (Nat.two_pow_pos w)
  have hc := c.toNat_le
  rw [toInt_eq_mod_sub_sign x, toInt_eq_mod_sub_sign y, ofNat_add_add_bool, BitVec.getLsbD_and, BitVec.getLsbD_xor,
    BitVec.getLsbD_xor, BitVec.getLsbD_add_add_bool (Nat.lt_succ_self w), BitVec.carry]
  generalize 2 ^ w = p at *
  generalize x.toNat % p = a at *
  generalize y.toNat % p = b at *
  rw [Bool.eq_iff_iff, decide_eq_true_eq]
  cases x.getLsbD w <;> cases y.getLsbD w <;> simp <;> omega

/-- A difference overflows as a signed number where the sign of the minuend differs from both others. -/
theorem getLsbD_overflow_sub :
    ((x ^^^ y) &&& (x ^^^ BitVec.ofInt (w + 1) (x.toNat - y.toNat - c.toNat))).getLsbD w =
      decide (x.toInt - y.toInt - c.toNat < -(2 ^ w : Nat) ∨ (2 ^ w : Nat) ≤ x.toInt - y.toInt - c.toNat) := by
  have hadd := getLsbD_overflow_add x (~~~y) (!c)
  have hc : ((!c).toNat : Int) = 1 - c.toNat := by cases c <;> rfl
  have hsum : x.toInt + (~~~y).toInt + (!c).toNat = x.toInt - y.toInt - c.toNat := by
    rw [toInt_not_eq, hc]
    ring
  rw [← ofInt_sub_sub_bool, hsum] at hadd
  rw [← hadd]
  simp only [BitVec.getLsbD_and, BitVec.getLsbD_xor, BitVec.getLsbD_not]
  cases x.getLsbD w <;> cases y.getLsbD w <;> simp

end

end Sys2Proof.Machine
end

section
/-! SUPPORT. The proofs of O38, O39, O40 and O41. Every ALU instruction reads its operand, then writes A and F (43_alu8.md R301); what
is then left to say of an operation is an equation between bytes: its result, and its F as flags by name. -/

namespace Sys2Proof.Machine

/-! ### F from the flags a rule names -/

/-- F with the flags a rule gives (10_state.md R25). -/
def Flags.pack (g : Flags) : Byte := packFlags g.s g.z g.y g.h g.x g.pv g.n g.c

theorem State.writeFlags_pack (s : State) (g : Flags) : (s.writeFlags g.pack).flagsAre g := s.writeFlags_flagsAre ..

theorem withYX_pack (g : Flags) (y x : Bool) : withYX g.pack y x = Flags.pack { g with y := y, x := x } := by
  simp only [Flags.pack, withYX, flagS_packFlags, flagZ_packFlags, flagH_packFlags, flagPV_packFlags, flagN_packFlags,
    flagC_packFlags]

/-- A and F written last, after an operation that changes WZ, the devices and the count of draws only. -/
theorem State.writeAccumulator {s u : State} {wz : Word} {dev : IoDevices} {draws : Nat}
    (hu : u = { s with cpu := { s.cpu with wz := wz }, io := dev, draws := draws }) (r : Byte) (g : Flags) (cycles : Nat) :
    let t := ((u.setA r).writeFlags g.pack).took cycles
    t.a = r ∧ t.flagsAre g ∧ t.cpu = { s.cpu with main := { s.cpu.main with a := r, f := t.f }, wz := wz } ∧
      s.KeepsAll dev t := by
  intro t
  have hflags : t.flagsAre g := State.flagsAre_congr rfl rfl ((u.setA r).writeFlags_pack g)
  have hstate : t = ({ u with
      cpu := { u.cpu with main := { u.cpu.main with a := r, f := t.f } }, draws := t.draws } : State).took cycles :=
    congrArg (State.took · cycles) ((u.setA r).writeFlags_state g.pack)
  clear_value t
  subst hu
  have hcpu := congrArg State.cpu hstate
  exact ⟨congrArg (·.main.a) hcpu, hflags, hcpu, State.keepsAll_of_eq (by rw [hstate]; rfl)⟩

/-! ### The operations of alu[ ] -/

/-- The A and F that an operation of alu[ ] leaves, from A, the operand and C (43_alu8.md R302 to R309). -/
def Alu.outcome (op : Alu) (a v : Byte) (c : Bool) : Byte × Byte :=
  match op with
  | .add => add8 a v false
  | .adc => add8 a v c
  | .sub => sub8 a v false
  | .sbc => sub8 a v c
  | .and => (a &&& v, szxyp (a &&& v) true false)
  | .xor => (a ^^^ v, szxyp (a ^^^ v) false false)
  | .or => (a ||| v, szxyp (a ||| v) false false)
  | .cp => (a, cpFlags a v)

/-- What an operation of alu[ ] does to A and F in a state. -/
def Alu.run (op : Alu) (s : State) (v : Byte) : State :=
  (s.setA (op.outcome s.a v (flagC s.f)).1).writeFlags (op.outcome s.a v (flagC s.f)).2

/-- Every ALU instruction reads its operand and runs its operation on it (43_alu8.md R301). -/
theorem exec_of_aluOf {i : Instr} {op : Alu} {src : Src} {cycles : Nat} (h : aluOf i = some (op, src, cycles)) (s : State) :
    exec i s = .next ((op.run (s.operand src).2 (s.operand src).1).took cycles) := by
  unfold aluOf at h
  split at h <;> cases h <;> rfl

/-- What an ALU instruction leaves whose operation gives the result `r` and the flags `g`. -/
theorem exec_alu {i : Instr} {op : Alu} {src : Src} {cycles : Nat} (h : aluOf i = some (op, src, cycles)) {s : State} {r : Byte}
    {g : Flags} (hop : op.outcome s.a (s.readSrc src).1 (flagC s.f) = (r, g.pack)) :
    ∃ t : State, exec i s = .next t ∧ t.stepCycles = cycles ∧ t.a = r ∧ t.flagsAre g ∧
      t.cpu = { s.cpu with main := { s.cpu.main with a := r, f := t.f }, wz := s.wzAfterRead src } ∧
      s.KeepsAll (s.readSrc src).2 t := by
  have hread := s.operand_state src
  have hmain : (s.operand src).2.cpu.main = s.cpu.main := by rw [hread]
  have hrun : op.run (s.operand src).2 (s.operand src).1 = ((s.operand src).2.setA r).writeFlags g.pack := by
    rw [Alu.run, State.a, State.f, hmain, s.operand_byte]
    change ((s.operand src).2.setA (op.outcome s.a _ (flagC s.f)).1).writeFlags (op.outcome s.a _ (flagC s.f)).2 = _
    rw [hop]
  refine ⟨_, exec_of_aluOf h s, rfl, ?_⟩
  rw [hrun]
  exact State.writeAccumulator hread r g cycles

/-! ### Sums and differences -/

/-- The flags of a sum: carries, and the signed overflow (43_alu8.md R300). -/
theorem add8_eq (a v : Byte) (c : Bool) :
    let r := BitVec.ofNat 8 (a.toNat + v.toNat + c.toNat)
    add8 a v c = (r, Flags.pack ⟨decide (r.toInt < 0), r == 0, decide (16 ≤ a.toNat % 16 + v.toNat % 16 + c.toNat),
      decide (a.toInt + v.toInt + c.toNat < -128 ∨ 127 < a.toInt + v.toInt + c.toNat), false,
      decide (256 ≤ a.toNat + v.toNat + c.toNat), r.getLsbD 5, r.getLsbD 3⟩) := by
  intro r
  have hhalf : (a ^^^ v ^^^ r).getLsbD 4 = decide (16 ≤ a.toNat % 16 + v.toNat % 16 + c.toNat) :=
    getLsbD_xor_xor_add a v c (by decide)
  have hoverflow : ((a ^^^ r) &&& (v ^^^ r)).getLsbD 7 =
      decide (a.toInt + v.toInt + c.toNat < -128 ∨ 127 < a.toInt + v.toInt + c.toNat) := getLsbD_overflow_add a v c
  rw [← hhalf, ← hoverflow, ← getLsbD_seven_eq_neg]
  rfl

theorem ofInt_eight_toNat (n : Int) : ((BitVec.ofInt 8 n).toNat : Int) = n % 256 := by
  rw [BitVec.toNat_ofInt]
  exact Int.toNat_of_nonneg (Int.emod_nonneg _ (by decide))

/-- The flags of a difference: borrows, and the signed overflow (43_alu8.md R300). -/
theorem sub8_eq (a v : Byte) (c : Bool) :
    let r := BitVec.ofInt 8 (a.toNat - v.toNat - c.toNat)
    sub8 a v c = (r, Flags.pack ⟨decide (r.toInt < 0), r == 0, decide (a.toNat % 16 < v.toNat % 16 + c.toNat),
      decide (a.toInt - v.toInt - c.toNat < -128 ∨ 127 < a.toInt - v.toInt - c.toNat), true,
      decide (a.toNat < v.toNat + c.toNat), r.getLsbD 5, r.getLsbD 3⟩) := by
  intro r
  have hhalf : (a ^^^ v ^^^ r).getLsbD 4 = decide (a.toNat % 16 < v.toNat % 16 + c.toNat) :=
    getLsbD_xor_xor_sub a v c (by decide)
  have hoverflow : ((a ^^^ v) &&& (a ^^^ r)).getLsbD 7 =
      decide (a.toInt - v.toInt - c.toNat < -128 ∨ 127 < a.toInt - v.toInt - c.toNat) := getLsbD_overflow_sub a v c
  have hborrow : decide (a.toNat < v.toNat + c.toNat) = decide ((a.toNat - v.toNat - c.toNat : Int) < 0) :=
    decide_eq_decide.2 (by omega)
  rw [← hhalf, ← hoverflow, hborrow, ← getLsbD_seven_eq_neg]
  rfl

/-- Settles O38: both operations are `add8`, whose flags `add8_eq` names. -/
theorem addAndAdc : Obligations.AddAndAdc := by
  unfold Obligations.AddAndAdc
  intro i op src cycles s h hop v c
  have hadd : op.outcome s.a v (flagC s.f) = add8 s.a v c := by rcases hop with rfl | rfl <;> rfl
  obtain ⟨t, hexec, hcycles, ha, hflags, hcpu, hframe⟩ := exec_alu h (hadd.trans (add8_eq s.a v c))
  refine ⟨t, hexec, hcycles, ?_⟩
  rw [ha]
  exact ⟨BitVec.toNat_ofNat .., hflags, hcpu, hframe⟩

/-- Settles O39: both operations are `sub8`, whose flags `sub8_eq` names. -/
theorem subAndSbc : Obligations.SubAndSbc := by
  unfold Obligations.SubAndSbc
  intro i op src cycles s h hop v c
  have hsub : op.outcome s.a v (flagC s.f) = sub8 s.a v c := by rcases hop with rfl | rfl <;> rfl
  obtain ⟨t, hexec, hcycles, ha, hflags, hcpu, hframe⟩ := exec_alu h (hsub.trans (sub8_eq s.a v c))
  refine ⟨t, hexec, hcycles, ?_⟩
  rw [ha]
  exact ⟨ofInt_eight_toNat _, hflags, hcpu, hframe⟩

/-! ### CP -/

/-- The F of CP: the flags of the difference, but Y and X from the operand (43_alu8.md R309). -/
theorem cpFlags_eq (a v : Byte) :
    cpFlags a v = Flags.pack ⟨decide (128 ≤ (a.toNat - v.toNat : Int) % 256), decide (a = v), decide (a.toNat % 16 < v.toNat % 16),
      decide (a.toInt - v.toInt < -128 ∨ 127 < a.toInt - v.toInt), true, decide (a.toNat < v.toNat),
      v.getLsbD 5, v.getLsbD 3⟩ := by
  have hsign : decide ((BitVec.ofInt 8 (a.toNat - v.toNat)).toInt < 0) = decide (128 ≤ (a.toNat - v.toNat : Int) % 256) := by
    rw [decide_eq_decide, BitVec.toInt_neg_iff, ← ofInt_eight_toNat]
    omega
  have hzero : (BitVec.ofInt 8 (a.toNat - v.toNat) == 0) = decide (a = v) := by
    have hdiff : BitVec.ofInt 8 (a.toNat - v.toNat) = a - v := by simpa using (sub_sub_ofBool a v false).symm
    rw [hdiff, sub_beq_zero]
    rfl
  rw [cpFlags, sub8_eq, withYX_pack]
  simp only [Bool.toNat_false, Nat.cast_zero, sub_zero, add_zero, hsign, hzero]

/-- Settles O40, by `cpFlags_eq`. -/
theorem compares : Obligations.Compares := by
  unfold Obligations.Compares
  intro i src cycles s h v
  obtain ⟨t, hexec, hcycles, -, hflags, hcpu, hframe⟩ :=
    exec_alu h (s := s) (congrArg (Prod.mk s.a) (cpFlags_eq s.a v))
  exact ⟨t, hexec, hcycles, hflags, hcpu, hframe⟩

/-! ### AND, XOR and OR -/

theorem szxyp_eq (v : Byte) (h c : Bool) :
    szxyp v h c = Flags.pack ⟨decide (v.toInt < 0), v == 0, h, evenOnes v, false, c, v.getLsbD 5, v.getLsbD 3⟩ := by
  rw [← getLsbD_seven_eq_neg, ← parity_eq_evenOnes]
  rfl

/-- What an ALU instruction leaves that gives the result `r` with the flags of SZXYP. -/
theorem exec_logic {i : Instr} {op : Alu} {src : Src} {cycles : Nat} (h : aluOf i = some (op, src, cycles)) {s : State} {r : Byte}
    {half : Bool} (hop : op.outcome s.a (s.readSrc src).1 (flagC s.f) = (r, szxyp r half false)) :
    ∃ t : State, exec i s = .next t ∧ t.stepCycles = cycles ∧ t.a = r ∧
      t.flagsAre ⟨decide (t.a.toInt < 0), t.a == 0, half, evenOnes t.a, false, false, t.a.getLsbD 5, t.a.getLsbD 3⟩ ∧
      t.cpu = { s.cpu with main := { s.cpu.main with a := t.a, f := t.f }, wz := s.wzAfterRead src } ∧
      s.KeepsAll (s.readSrc src).2 t := by
  obtain ⟨t, hexec, hcycles, ha, hrest⟩ := exec_alu h (hop.trans (congrArg (Prod.mk r) (szxyp_eq r half false)))
  refine ⟨t, hexec, hcycles, ha, ?_⟩
  rwa [ha]

/-- Settles O41: each operation gives its result with the flags of SZXYP. -/
theorem logic : Obligations.Logic := by
  unfold Obligations.Logic
  intro i op src cycles s h hop v
  have hresult : op.outcome s.a v (flagC s.f) =
      ((op.outcome s.a v (flagC s.f)).1, szxyp (op.outcome s.a v (flagC s.f)).1 (decide (op = .and)) false) := by
    rcases hop with rfl | rfl | rfl <;> rfl
  obtain ⟨t, hexec, hcycles, ha, hrest⟩ := exec_logic h hresult
  refine ⟨t, hexec, hcycles, fun k _ => ?bits, hrest⟩
  case bits =>
    rw [ha]
    rcases hop with rfl | rfl | rfl
    exacts [BitVec.getLsbD_and, BitVec.getLsbD_xor, BitVec.getLsbD_or]

end Sys2Proof.Machine
end

section
/-! SUPPORT. The proof of O42. Every read-modify-write instruction reads its operand, computes the byte with F written, and writes
the byte back (43_alu8.md R310 to R313; 45_rotate_bit.md R404, R427); what this leaves is said once for any operation. -/

namespace Sys2Proof.Machine

/-! ### Read, modify, write -/

/-- The function of the byte and the old C of a CB rotate or shift (45_rotate_bit.md R406 to R413). -/
def Rot.run (kind : Rot) (v : Byte) (c : Bool) : Byte × Bool :=
  match kind with
  | .rlc => rlc8 v
  | .rrc => rrc8 v
  | .rl => rl8 v c
  | .rr => rr8 v c
  | .sla => sla8 v
  | .sra => sra8 v
  | .sll => sll8 v
  | .srl => srl8 v

/-- The byte and the flags of a read-modify-write operation. -/
def Rmw.op : Rmw → RmwOp
  | .inc => incOp
  | .dec => decOp
  | .rot kind => rotOp kind.run
  | .res b => resOp b
  | .set b => setOp b

/-- The address of a memory operand as the meanings form it. -/
def State.formAddr (s : State) : Addr → Word
  | .disp p d => s.dispAddr p d
  | a => s.addrOf a

theorem State.formAddr_eq (s : State) (a : Addr) : s.formAddr a = s.addrOf a := by
  cases a with
  | disp p d => exact s.dispAddr_eq p d
  | _ => rfl

/-- Writes a result back in `t`, where the operand's address is formed in `s`. -/
def State.writeBack (s : State) (place : RmwPlace) (t : State) (w : Byte) : State :=
  match place with
  | .reg b => t.setByteReg b w
  | .mem a => t.memWrite (s.formAddr a) w
  | .copy a r => (t.memWrite (s.formAddr a) w).setByteReg (.reg r) w

/-- Every read-modify-write instruction reads its operand and writes the result back (43_alu8.md R310 to R313; 45_rotate_bit.md
R404, R427). -/
theorem exec_of_rmwOf {i : Instr} {op : Rmw} {place : RmwPlace} {cycles : Nat} (h : rmwOf i = some (op, place, cycles))
    (s : State) :
    let w := op.op (s.operand place.src).2 (s.operand place.src).1
    exec i s = .next ((s.writeBack place w.2 w.1).took cycles) := by
  unfold rmwOf at h
  split at h <;> cases h <;> rfl

theorem State.byteReg_congr {s t : State} (h : t.cpu = s.cpu) (b : ByteReg) : t.byteReg b = s.byteReg b := by
  cases b with
  | reg r => exact congrArg (·.main.get r) h
  | xyh p | xyl p => cases p <;> simp only [State.byteReg, State.index, h]

section
variable (s t : State) (place : RmwPlace) (w : Byte)

theorem State.writeBack_f : (s.writeBack place t w).f = t.f := by
  cases place with
  | reg b => exact State.setByteReg_f ..
  | mem a => exact congrArg (·.main.f) (State.memWrite_cpu ..)
  | copy a r => exact (State.setByteReg_f ..).trans (congrArg (·.main.f) (State.memWrite_cpu ..))

theorem State.writeBack_cfg : (s.writeBack place t w).cfg = t.cfg := by
  cases place with
  | reg b => rw [State.writeBack, State.setByteReg_state]
  | mem a => exact State.memWrite_cfg ..
  | copy a r => exact State.memWrite_cfg ..

end

/-- A result written back after the operand was read and F written: the register or the byte of memory, and nothing else. -/
theorem State.writeBack_leaves {s t : State} {place : RmwPlace} {f : Byte} {draws : Nat}
    (ht : t = { s with
      cpu := { s.cpu with main := { s.cpu.main with f := f }, wz := s.wzAfterRead place.src }
      io := (s.readSrc place.src).2, draws := draws }) (w : Byte) (cycles : Nat) :
    s.rmwLeaves place w ((s.writeBack place t w).took cycles) := by
  have hreg (b : ByteReg) : t.byteReg b = s.byteReg b := by rw [ht]; cases b <;> rfl
  have hstore (a : Word) : t.memWrite a w =
      { State.writeAll [(a, w)] { s with io := (s.readSrc place.src).2 } with cpu := t.cpu, draws := t.draws } := by
    rw [ht]
    refine (State.writeAll_withCpu [(a, w)] { s with io := (s.readSrc place.src).2 } _ draws s.stepCycles).trans ?_
    rw [State.writeAll_state]
  cases place with
  | reg b =>
    have hwrite := t.setByteReg_state b w
    refine ⟨?cpu, ?self, fun other hne => ?other, ?frame⟩
    case cpu => rw [State.writeBack, hwrite, ht]; rfl
    case self => exact (t.byteReg_setByteReg ..).trans (if_pos rfl)
    case other => exact (t.byteReg_setByteReg ..).trans ((if_neg hne).trans (hreg other))
    case frame => rw [State.writeBack, hwrite, ht]; exact State.keepsAll_of_eq rfl
  | mem a =>
    refine ⟨?cpu, fun other => ?other, State.stores_of_eq ?frame⟩
    all_goals rw [State.writeBack, State.formAddr_eq, hstore]
    case cpu => rw [ht]; rfl
    case other => exact (State.byteReg_congr rfl other).trans (hreg other)
    case frame => rfl
  | copy a r =>
    refine ⟨?cpu, ?self, fun other hne => ?other, State.stores_of_eq ?frame⟩
    all_goals rw [State.writeBack, State.formAddr_eq, hstore]
    case cpu => rw [ht]; rfl
    case self => exact (State.byteReg_setByteReg _ (.reg r) w (.reg r)).trans (if_pos rfl)
    case other => exact (State.byteReg_setByteReg ..).trans ((if_neg hne).trans ((State.byteReg_congr rfl other).trans (hreg other)))
    case frame => rfl

/-- What a read-modify-write instruction leaves whose operation gives the byte `w` and writes the flags `g`. -/
theorem exec_rmw {i : Instr} {op : Rmw} {place : RmwPlace} {cycles : Nat} (h : rmwOf i = some (op, place, cycles)) {s : State}
    {w : Byte} {g : Flags}
    (hop : ∀ t : State, t.f = s.f → op.op t (s.readSrc place.src).1 = (w, t.writeFlags g.pack)) :
    ∃ t : State, exec i s = .next t ∧ t.stepCycles = cycles ∧ s.rmwLeaves place w t ∧ t.flagsAre g := by
  have hread := s.operand_state place.src
  have hw := hop (s.operand place.src).2 (by rw [hread]; rfl)
  have hexec := exec_of_rmwOf h s
  simp only [s.operand_byte, hw] at hexec
  refine ⟨_, hexec, rfl, State.writeBack_leaves (f := ((s.operand place.src).2.writeFlags g.pack).f)
    (draws := ((s.operand place.src).2.writeFlags g.pack).draws) ?written w cycles, ?flags⟩
  case written => rw [State.writeFlags_state, hread]; rfl
  case flags =>
    exact State.flagsAre_congr (State.writeBack_f ..) (State.writeBack_cfg ..) ((s.operand place.src).2.writeFlags_pack g)

/-! ### INC and DEC -/

theorem toInt_beq (v w : Byte) : (v == w) = decide (v.toInt = w.toInt) := by
  rw [Bool.eq_iff_iff, beq_iff_eq, decide_eq_true_eq, BitVec.toInt_inj]

theorem and_0x0F_beq (v d : Byte) : (v &&& 0x0F == d) = decide (v.toNat % 16 = d.toNat) := by
  rw [Bool.eq_iff_iff, beq_iff_eq, decide_eq_true_eq, ← BitVec.toNat_inj, and_0x0F_toNat]

/-- INC of a byte: H is the carry of the low digit, P/V is set where the sign overflows (43_alu8.md R310). -/
theorem inc8_eq (v f : Byte) :
    let w := BitVec.ofInt 8 (v.toNat + 1)
    inc8 v f = (w, Flags.pack ⟨decide (w.toInt < 0), w == 0, decide (v.toNat % 16 = 15), decide (v.toInt = 127), false, flagC f,
      w.getLsbD 5, w.getLsbD 3⟩) := by
  intro w
  have hw : w = v + 1 := by simp [w, BitVec.ofInt_add]
  rw [← getLsbD_seven_eq_neg, hw]
  unfold inc8
  simp only [toInt_beq v, and_0x0F_beq]
  rfl

/-- DEC of a byte: H is the borrow of the low digit, P/V is set where the sign overflows (43_alu8.md R312). -/
theorem dec8_eq (v f : Byte) :
    let w := BitVec.ofInt 8 (v.toNat - 1)
    dec8 v f = (w, Flags.pack ⟨decide (w.toInt < 0), w == 0, decide (v.toNat % 16 = 0), decide (v.toInt = -128), true, flagC f,
      w.getLsbD 5, w.getLsbD 3⟩) := by
  intro w
  have hw : w = v - 1 := by simp [w, Int.sub_eq_add_neg, BitVec.ofInt_add, BitVec.sub_eq_add_neg]
  rw [← getLsbD_seven_eq_neg, hw]
  unfold dec8
  simp only [toInt_beq v, and_0x0F_beq]
  rfl

/-- Settles O42: by `inc8_eq` and `dec8_eq`, written back as `exec_rmw` says. -/
theorem incAndDec : Obligations.IncAndDec := by
  unfold Obligations.IncAndDec
  intro i op place cycles s h hop v w
  rcases hop with rfl | rfl
  case inl =>
    refine exec_rmw h fun t ht => ?_
    show ((inc8 v t.f).1, t.writeFlags (inc8 v t.f).2) = _
    rw [ht, inc8_eq]
    rfl
  case inr =>
    refine exec_rmw h fun t ht => ?_
    show ((dec8 v t.f).1, t.writeFlags (dec8 v t.f).2) = _
    rw [ht, dec8_eq]
    rfl

end Sys2Proof.Machine
end

section
/-! SUPPORT. The proofs of O43, O44 and O45. DAA adds or subtracts one byte, made of a correction of each digit (43_alu8.md R320); the
carry into its upper digit is then that of a sum or a difference. -/

namespace Sys2Proof.Machine

/-! ### Instructions on A and F -/

/-- What an instruction leaves that writes A and F and nothing else. -/
theorem exec_accumulator {i : Instr} {s : State} {p : Byte × Byte} {cycles : Nat}
    (h : exec i s = .next (((s.setA p.1).writeFlags p.2).took cycles)) {r : Byte} {g : Flags} (hp : p = (r, g.pack)) :
    ∃ t : State, exec i s = .next t ∧ t.stepCycles = cycles ∧ t.a = r ∧ t.flagsAre g ∧
      t.cpu = { s.cpu with main := { s.cpu.main with a := r, f := t.f } } ∧ s.KeepsAll s.io t := by
  subst hp
  exact ⟨_, h, rfl, State.writeAccumulator (rfl : s = { s with io := s.io }) r g cycles⟩

/-! ### DAA -/

/-- What DAA adds to A, or subtracts from it (43_alu8.md R320). -/
def daaAdjust (a f : Byte) : Byte :=
  let low : Byte := if flagH f || decide (9 < a.toNat % 16) then 0x06 else 0x00
  if flagC f || decide (0x99 < a.toNat) then low ||| 0x60 else low

section
variable (a f : Byte)

theorem daaAdjust_toNat :
    (daaAdjust a f).toNat = (if flagH f = true ∨ 9 < a.toNat % 16 then 0x06 else 0) +
      if (flagC f || decide (0x99 < a.toNat)) = true then 0x60 else 0 := by
  simp only [daaAdjust, Bool.or_eq_true, decide_eq_true_eq]
  split <;> split <;> rfl

theorem daaAdjust_getLsbD_four : (daaAdjust a f).getLsbD 4 = false := by
  unfold daaAdjust
  dsimp only
  split <;> split <;> rfl

/-- A after DAA (43_alu8.md R320). -/
def daaResult : Byte := if flagN f then a - daaAdjust a f else a + daaAdjust a f

/-- H after DAA (43_alu8.md R320). -/
def daaHalf : Bool := if flagN f = true then flagH f && decide (a.toNat % 16 < 6) else decide (9 < a.toNat % 16)

theorem daa8_eq :
    daa8 a f = (daaResult a f, Flags.pack ⟨decide ((daaResult a f).toInt < 0), daaResult a f == 0, daaHalf a f,
      evenOnes (daaResult a f), flagN f, flagC f || decide (0x99 < a.toNat),
      (daaResult a f).getLsbD 5, (daaResult a f).getLsbD 3⟩) := by
  have hcarry (high : Bool) (h : (flagC f || decide (0x99 < a.toNat)) = high) : (if high then true else flagC f) = high := by
    cases high with
    | true => rfl
    | false => exact (Bool.or_eq_false_iff.1 h).1
  rw [← getLsbD_seven_eq_neg, ← parity_eq_evenOnes, ← hcarry _ rfl]
  unfold daa8
  simp only [and_0x0F_toNat]
  rfl

theorem daaResult_eq_ofInt :
    daaResult a f = BitVec.ofInt 8 (if flagN f = true then a.toNat - (daaAdjust a f).toNat else a.toNat + (daaAdjust a f).toNat) := by
  unfold daaResult
  split
  case isTrue => simpa using sub_sub_ofBool a (daaAdjust a f) false
  case isFalse => rw [BitVec.ofInt_add]; simp

/-- R320's parenthesis: H tells whether the correction of the low digit changed the upper one. -/
theorem getLsbD_xor_daaResult : (a ^^^ daaResult a f).getLsbD 4 = daaHalf a f := by
  have hxor : (a ^^^ daaAdjust a f ^^^ daaResult a f).getLsbD 4 = (a ^^^ daaResult a f).getLsbD 4 := by
    simp only [BitVec.getLsbD_xor, daaAdjust_getLsbD_four, Bool.bne_false]
  have hdigit : (daaAdjust a f).toNat % 16 = if flagH f = true ∨ 9 < a.toNat % 16 then 0x06 else 0 := by
    rw [daaAdjust_toNat]
    split <;> split <;> rfl
  have hlow : a.toNat % 16 < 16 := Nat.mod_lt _ (by decide)
  rw [← hxor, daaResult_eq_ofInt, daaHalf]
  cases flagN f with
  | true =>
    have hborrow := getLsbD_xor_xor_sub a (daaAdjust a f) false (show 4 < 8 by decide)
    simp only [Bool.toNat_false, Nat.cast_zero, sub_zero, add_zero, Nat.reducePow, hdigit] at hborrow
    refine hborrow.trans ?_
    rw [Bool.eq_iff_iff]
    by_cases hnine : 9 < a.toNat % 16 <;> cases flagH f <;> simp [hnine]
    omega
  | false =>
    have hcarry := getLsbD_xor_xor_add a (daaAdjust a f) false (show 4 < 8 by decide)
    simp only [Bool.toNat_false, add_zero, Nat.reducePow, hdigit] at hcarry
    refine hcarry.trans ?_
    rw [Bool.eq_iff_iff]
    by_cases hnine : 9 < a.toNat % 16 <;> cases flagH f <;> simp [hnine] <;> omega

end

/-- Settles O43: `daa8_eq` names the flags, and `getLsbD_xor_daaResult` is R320's parenthesis. -/
theorem decimalAdjust : Obligations.DecimalAdjust := by
  unfold Obligations.DecimalAdjust
  refine ⟨rfl, fun s => ?_⟩
  intro low high t6 adjust
  have hadjust : ((daaAdjust s.a s.f).toNat : Int) = adjust := by
    rw [daaAdjust_toNat]
    push_cast
    rfl
  have hresult := daaResult_eq_ofInt s.a s.f
  rw [hadjust] at hresult
  obtain ⟨t, hexec, hcycles, ha, hflags, hcpu, hframe⟩ := exec_accumulator (i := .daa) (s := s) rfl (daa8_eq s.a s.f)
  refine ⟨t, hexec, hcycles, ha.trans hresult, ?_⟩
  rw [ha]
  obtain ⟨-, -, hhalf, -⟩ := id hflags
  exact ⟨hflags, hhalf.trans (getLsbD_xor_daaResult s.a s.f).symm, hcpu, hframe⟩

/-! ### Decimal numbers -/

/-- The byte of a decimal number of two digits, one digit in each half. -/
def packedDecimal (m : Nat) : Nat := m / 10 * 16 + m % 10

/-- The low digit is corrected where the digits' sum has two digits: it then carries into the upper half or exceeds 9. -/
theorem packedDecimal_lowDigit (m n : Nat) :
    (16 ≤ packedDecimal m % 16 + packedDecimal n % 16 ∨ 9 < (packedDecimal m + packedDecimal n) % 256 % 16) ↔
      10 ≤ m % 10 + n % 10 := by
  unfold packedDecimal
  omega

section
variable {m n : Nat} (hm : m < 100) (hn : n < 100)
include hm hn

/-- The upper digit is corrected where the sum has a hundred: it then carries out of the byte or exceeds 0x99. -/
theorem packedDecimal_highDigit :
    (256 ≤ packedDecimal m + packedDecimal n ∨ 0x99 < (packedDecimal m + packedDecimal n) % 256) ↔ 100 ≤ m + n := by
  have hsum : packedDecimal m + packedDecimal n = m + n + 6 * (m / 10 + n / 10) := by
    unfold packedDecimal
    omega
  rw [hsum]
  by_cases hbyte : m + n + 6 * (m / 10 + n / 10) < 256
  · rw [Nat.mod_eq_of_lt hbyte]
    omega
  · omega

/-- With both corrections the sum of the bytes is the byte of the sum. -/
theorem packedDecimal_add :
    (packedDecimal m + packedDecimal n + ((if 10 ≤ m % 10 + n % 10 then 0x06 else 0) + if 100 ≤ m + n then 0x60 else 0)) % 256 =
      packedDecimal ((m + n) % 100) := by
  unfold packedDecimal
  split <;> split <;> omega

end

theorem packedDecimal_toNat {m : Nat} (hm : m < 100) : (BitVec.ofNat 8 (packedDecimal m)).toNat = packedDecimal m := by
  unfold packedDecimal
  exact Nat.mod_eq_of_lt (by omega)

/-- O38 for ADD A,n, with the flags that DAA looks at. -/
theorem exec_addAN (s : State) (v : Byte) :
    ∃ t : State, exec (.addAN v) s = .next t ∧ t.a.toNat = (s.a.toNat + v.toNat) % 256 ∧
      flagH t.f = decide (16 ≤ s.a.toNat % 16 + v.toNat % 16) ∧ flagN t.f = false ∧
      flagC t.f = decide (256 ≤ s.a.toNat + v.toNat) := by
  obtain ⟨t, hexec, -, hsum, ⟨-, -, hhalf, -, hsub, hcarry, -⟩, -⟩ := addAndAdc (.addAN v) .add (.imm v) 7 s rfl (.inl rfl)
  exact ⟨t, hexec, hsum, hhalf, hsub, hcarry⟩

/-- Settles O44: by O43 both digits of the sum are corrected as a decimal addition asks. -/
theorem decimalAddition : Obligations.DecimalAddition := by
  unfold Obligations.DecimalAddition
  intro s m n hm hn ha
  have hleft : s.a.toNat = packedDecimal m := (congrArg BitVec.toNat ha).trans (packedDecimal_toNat hm)
  obtain ⟨t, hadd, hsum, hhalf, hsub, hcarry⟩ := exec_addAN s (BitVec.ofNat 8 (packedDecimal n))
  rw [hleft, packedDecimal_toNat hn] at hsum hhalf hcarry
  obtain ⟨u, hdaa, -, hresult, ⟨-, -, -, -, -, hhundred, -⟩, -⟩ := decimalAdjust.2 t
  have hlow : flagH t.f = true ∨ 9 < t.a.toNat % 16 ↔ 10 ≤ m % 10 + n % 10 := by
    rw [hhalf, hsum, decide_eq_true_eq]
    exact packedDecimal_lowDigit m n
  have hhigh : (flagC t.f || decide (0x99 < t.a.toNat)) = decide (100 ≤ m + n) := by
    rw [hcarry, hsum, ← Bool.decide_or, decide_eq_decide]
    exact packedDecimal_highDigit hm hn
  refine ⟨t, u, hadd, hdaa, ?sum, hhundred.trans hhigh⟩
  case sum =>
    simp only [hsub, hhigh, hlow, Bool.false_eq_true, if_false, decide_eq_true_eq] at hresult
    have hbyte : (u.a.toNat : Int) = packedDecimal ((m + n) % 100) := by
      rw [hresult, ofInt_eight_toNat, hsum, ← packedDecimal_add hm hn]
      push_cast
      exact Int.emod_add_emod ..
    have hdigits : packedDecimal ((m + n) % 100) = (m + n) % 100 / 10 * 16 + (m + n) % 10 := by
      unfold packedDecimal
      omega
    rw [← hdigits, ← Nat.cast_injective hbyte, BitVec.ofNat_toNat, BitVec.setWidth_eq]

/-! ### CPL, SCF, CCF and NEG -/

/-- Negation is the difference from 0 (43_alu8.md R322). -/
theorem sub8_zero_eq (a : Byte) :
    let r := BitVec.ofInt 8 (-a.toNat)
    sub8 0 a false = (r, Flags.pack ⟨decide (r.toInt < 0), r == 0, decide (a.toNat % 16 ≠ 0), decide (a = 0x80), true,
      decide (a ≠ 0), r.getLsbD 5, r.getLsbD 3⟩) := by
  have hhalf : decide (a.toNat % 16 ≠ 0) = decide (0 < a.toNat % 16) := decide_eq_decide.2 Nat.pos_iff_ne_zero.symm
  have hborrow : decide (a ≠ 0) = decide (0 < a.toNat) := decide_eq_decide.2 (by bv_omega)
  have hoverflow : decide (a = 0x80) = decide (-a.toInt < -128 ∨ 127 < -a.toInt) := by
    have hlow : -128 ≤ a.toInt := a.le_toInt
    have hhigh : a.toInt < 128 := a.toInt_lt
    rw [decide_eq_decide, ← BitVec.toInt_inj, show (0x80 : Byte).toInt = -128 from rfl]
    omega
  rw [hhalf, hborrow, hoverflow]
  simpa using sub8_eq 0 a false

/-- Settles O45: each writes A and F, with the flags of its rule. -/
theorem accumulatorAndFlags : Obligations.AccumulatorAndFlags := by
  unfold Obligations.AccumulatorAndFlags
  refine ⟨rfl, rfl, rfl, fun _ => rfl, fun s y => ⟨?cpl, ?scf, ?ccf, ?neg⟩⟩
  case cpl =>
    obtain ⟨t, hexec, hcycles, ha, hflags, hcpu, hframe⟩ :=
      exec_accumulator (i := .cpl) (s := s) (p := (~~~s.a, cplFlags (~~~s.a) s.f)) (g := ⟨_, _, _, _, _, _, _, _⟩) rfl rfl
    refine ⟨t, hexec, hcycles, ?_⟩
    rw [ha]
    exact ⟨BitVec.toNat_not, hflags, hcpu, hframe⟩
  case scf =>
    obtain ⟨t, hexec, hcycles, -, hrest⟩ :=
      exec_accumulator (i := .scf) (s := s) (p := (s.a, scfFlags s.a s.f)) (g := ⟨_, _, _, _, _, _, _, _⟩) rfl rfl
    exact ⟨t, hexec, hcycles, hrest⟩
  case ccf =>
    obtain ⟨t, hexec, hcycles, -, hrest⟩ :=
      exec_accumulator (i := .ccf) (s := s) (p := (s.a, ccfFlags s.a s.f)) (g := ⟨_, _, _, _, _, _, _, _⟩) rfl rfl
    exact ⟨t, hexec, hcycles, hrest⟩
  case neg =>
    obtain ⟨t, hexec, hcycles, ha, hflags, hcpu, hframe⟩ := exec_accumulator (i := .neg y) (s := s) rfl (sub8_zero_eq s.a)
    refine ⟨t, hexec, hcycles, ?_⟩
    rw [ha]
    refine ⟨?_, hflags, hcpu, hframe⟩
    have hnat := ofInt_eight_toNat (-s.a.toNat)
    omega

end Sys2Proof.Machine
end

section
/-! SUPPORT. The proof of O46. Every 16-bit arithmetic instruction writes WZ, its destination and F (44_alu16.md R350 to R353); what is
then left to say of an operation is an equation between words: its result, and its F as flags by name. -/

namespace Sys2Proof.Machine

/-! ### ADD, ADC and SBC of words -/

/-- The word and F that a 16-bit operation leaves, from the destination, the operand and F (44_alu16.md R350, R352, R353). -/
def Alu16.outcome (op : Alu16) (a v : Word) (f : Byte) : Word × Byte :=
  match op with
  | .add => add16 a v f
  | .adc => adc16 a v (flagC f)
  | .sbc => sbc16 a v (flagC f)

theorem State.xyPair_eq (s : State) (p : IndexReg) (rp : XYPair) : s.xyPair p rp = s.wordReg (xyPairReg p rp) := by
  cases rp with
  | xy => exact s.index_eq p
  | bc | de | sp => rfl

/-- Every 16-bit arithmetic instruction leaves one past the old destination in WZ, then writes the destination and F (44_alu16.md
R350 to R353). -/
theorem exec_of_alu16Of {i : Instr} {op : Alu16} {dst src : WordReg} {cycles : Nat}
    (h : alu16Of i = some (op, dst, src, cycles)) (s : State) :
    let r := op.outcome (s.wordReg dst) (s.wordReg src) s.f
    exec i s = .next ((((s.setWz (s.wordReg dst + 1)).setWordReg dst r.1).writeFlags r.2).took cycles) := by
  unfold alu16Of at h
  split at h <;> cases h
  case h_2 =>
    dsimp only
    rw [← State.xyPair_eq, ← State.index_eq, ← State.setIndex_eq]
    rfl
  all_goals rw [← State.pair_eq]; rfl

theorem alu16Of_ne_sp {i : Instr} {op : Alu16} {dst src : WordReg} {cycles : Nat}
    (h : alu16Of i = some (op, dst, src, cycles)) : .sp ≠ dst := by
  unfold alu16Of at h
  split at h <;> cases h
  case h_2 p _ => cases p <;> decide
  all_goals decide

theorem State.wordReg_writeFlags (s : State) (f : Byte) (reg : WordReg) : (s.writeFlags f).wordReg reg = s.wordReg reg := by
  rw [State.writeFlags_state]
  cases reg <;> rfl

/-- A write of a word register other than SP leaves SP as it is. -/
theorem State.setWordReg_cpu_of_ne_sp {dst : WordReg} (h : .sp ≠ dst) (s : State) (w : Word) :
    (s.setWordReg dst w).cpu = { s.cpu with
      main := (s.setWordReg dst w).cpu.main, ix := (s.setWordReg dst w).cpu.ix, iy := (s.setWordReg dst w).cpu.iy } := by
  cases dst with
  | sp => exact absurd rfl h
  | bc | de | hl | ix | iy => rfl

/-- WZ, a word register other than SP and F written, and nothing else. -/
theorem State.writeWordAndFlags {dst : WordReg} (h : .sp ≠ dst) (s : State) (wz r : Word) (f : Byte) (cycles : Nat) :
    let t := (((s.setWz wz).setWordReg dst r).writeFlags f).took cycles
    t.wordReg dst = r ∧ (∀ other, other ≠ dst → t.wordReg other = s.wordReg other) ∧ t.a = s.a ∧
      t.cpu = { s.cpu with main := t.cpu.main, ix := t.cpu.ix, iy := t.cpu.iy, wz := wz } ∧ s.KeepsAll s.io t := by
  intro t
  have hword (reg : WordReg) : t.wordReg reg = ((s.setWz wz).setWordReg dst r).wordReg reg := State.wordReg_writeFlags _ f reg
  refine ⟨(hword dst).trans (State.wordReg_setWordReg_self ..), fun other hne => ?others, ?a, ?cpu, State.keepsAll_of_eq ?frame⟩
  case others => exact (hword other).trans (State.wordReg_setWordReg_ne _ hne r)
  case a => exact (congrArg (·.a) (State.writeFlags_main ..)).trans (State.setWordReg_a ..)
  all_goals
    subst t
    rw [State.writeFlags_state]
  case cpu =>
    rw [State.setWordReg_cpu_of_ne_sp h]
    rfl
  case frame =>
    rw [State.setWordReg_state]
    rfl

/-- What a 16-bit arithmetic instruction leaves whose operation gives the result `r` and the flags `g`. -/
theorem exec_alu16 {i : Instr} {op : Alu16} {dst src : WordReg} {cycles : Nat} (h : alu16Of i = some (op, dst, src, cycles))
    {s : State} {r : Word} {g : Flags} (hop : op.outcome (s.wordReg dst) (s.wordReg src) s.f = (r, g.pack)) :
    ∃ t : State, exec i s = .next t ∧ t.stepCycles = cycles ∧ t.wordReg dst = r ∧
      (∀ other, other ≠ dst → t.wordReg other = s.wordReg other) ∧ t.a = s.a ∧ t.flagsAre g ∧
      t.cpu = { s.cpu with main := t.cpu.main, ix := t.cpu.ix, iy := t.cpu.iy, wz := s.wordReg dst + 1 } ∧
      s.KeepsAll s.io t := by
  have hexec := exec_of_alu16Of h s
  rw [hop] at hexec
  obtain ⟨hdst, hother, ha, hcpu, hframe⟩ :=
    State.writeWordAndFlags (alu16Of_ne_sp h) s (s.wordReg dst + 1) r g.pack cycles
  exact ⟨_, hexec, rfl, hdst, hother, ha, State.flagsAre_congr rfl rfl (State.writeFlags_pack _ g), hcpu, hframe⟩

/-- The bits of a sum that the flags take, as carries and as signed overflow (44_alu16.md R350, R352). -/
theorem word_sum_flags (a v : Word) (c : Bool) :
    let r := BitVec.ofInt 16 (a.toNat + v.toNat + c.toNat)
    BitVec.ofNat 16 (a.toNat + v.toNat + c.toNat) = r ∧
      (a ^^^ v ^^^ r).getLsbD 12 = decide (4096 ≤ a.toNat % 4096 + v.toNat % 4096 + c.toNat) ∧
      ((a ^^^ r) &&& (v ^^^ r)).getLsbD 15 =
        decide (a.toInt + v.toInt + c.toNat < -32768 ∨ 32767 < a.toInt + v.toInt + c.toNat) := by
  intro r
  have hr : BitVec.ofNat 16 (a.toNat + v.toNat + c.toNat) = r := by
    rw [← BitVec.ofInt_natCast]
    push_cast
    rfl
  rw [← hr]
  exact ⟨rfl, getLsbD_xor_xor_add a v c (by decide), getLsbD_overflow_add a v c⟩

/-- The bits of a difference that the flags take, as borrows and as signed overflow (44_alu16.md R353). -/
theorem word_difference_flags (a v : Word) (c : Bool) :
    let r := BitVec.ofInt 16 (a.toNat - v.toNat - c.toNat)
    (a ^^^ v ^^^ r).getLsbD 12 = decide (a.toNat % 4096 < v.toNat % 4096 + c.toNat) ∧
      ((a ^^^ v) &&& (a ^^^ r)).getLsbD 15 =
        decide (a.toInt - v.toInt - c.toNat < -32768 ∨ 32767 < a.toInt - v.toInt - c.toNat) ∧
      decide ((a.toNat - v.toNat - c.toNat : Int) < 0) = decide (a.toNat < v.toNat + c.toNat) :=
  ⟨getLsbD_xor_xor_sub a v c (by decide), getLsbD_overflow_sub a v c, decide_eq_decide.2 (by omega)⟩

theorem getLsbD_fifteen_eq_neg (w : Word) : w.getLsbD 15 = decide (w.toInt < 0) := w.msb_eq_toInt

/-- The result and the flags of each operation: ADD takes no carry in and keeps S, Z and P/V (44_alu16.md R350, R352, R353). -/
theorem Alu16.outcome_eq (op : Alu16) (a v : Word) (f : Byte) :
    let c : Bool := op != .add && flagC f
    let sub := decide (op = .sbc)
    let r := BitVec.ofInt 16 (if sub then a.toNat - v.toNat - c.toNat else a.toNat + v.toNat + c.toNat)
    op.outcome a v f = (r, Flags.pack ⟨if op = .add then flagS f else decide (r.toInt < 0), if op = .add then flagZ f else r == 0,
      if sub then decide (a.toNat % 4096 < v.toNat % 4096 + c.toNat)
      else decide (4096 ≤ a.toNat % 4096 + v.toNat % 4096 + c.toNat),
      if op = .add then flagPV f
      else if sub then decide (a.toInt - v.toInt - c.toNat < -32768 ∨ 32767 < a.toInt - v.toInt - c.toNat)
      else decide (a.toInt + v.toInt + c.toNat < -32768 ∨ 32767 < a.toInt + v.toInt + c.toNat),
      sub,
      if sub then decide (a.toNat < v.toNat + c.toNat) else decide (65536 ≤ a.toNat + v.toNat + c.toNat),
      r.getLsbD 13, r.getLsbD 11⟩) := by
  dsimp only
  rw [← getLsbD_fifteen_eq_neg]
  cases op with
  | add =>
    obtain ⟨hr, hhalf, -⟩ := word_sum_flags a v false
    simp only [reduceCtorEq, decide_false, bne_self_eq_false, Bool.false_and, Bool.false_eq_true, if_true, if_false]
    rw [← hhalf, ← hr]
    rfl
  | adc =>
    obtain ⟨hr, hhalf, hoverflow⟩ := word_sum_flags a v (flagC f)
    have hc : (Alu16.adc != .add && flagC f) = flagC f := Bool.true_and _
    simp only [reduceCtorEq, decide_false, Bool.false_eq_true, if_false, hc]
    rw [← hhalf, ← hoverflow, ← hr]
    rfl
  | sbc =>
    obtain ⟨hhalf, hoverflow, hborrow⟩ := word_difference_flags a v (flagC f)
    have hc : (Alu16.sbc != .add && flagC f) = flagC f := Bool.true_and _
    simp only [reduceCtorEq, decide_true, if_true, if_false, hc]
    rw [← hhalf, ← hoverflow, ← hborrow]
    rfl

/-- Settles O46: `Alu16.outcome_eq` names the result and the flags, and `exec_alu16` says where they are found. -/
theorem wordArithmetic : Obligations.WordArithmetic := by
  unfold Obligations.WordArithmetic
  intro i op dst src cycles s h a v c sub
  obtain ⟨t, hexec, hcycles, hdst, hrest⟩ := exec_alu16 h (op.outcome_eq (s.wordReg dst) (s.wordReg src) s.f)
  refine ⟨t, hexec, hcycles, hdst, ?_⟩
  rw [hdst]
  exact hrest

end Sys2Proof.Machine
end

section
/-! SUPPORT. The proofs of O47 to O51. A rotate or shift is `Rot.run`, whose bits are those of `Rot.bit` and `Rot.out`; where the
result and the flags of an instruction go is said by the lemmas for A and F, for read-modify-write and for an operand read. -/

namespace Sys2Proof.Machine

/-! ### Rotates and shifts of a byte -/

section
variable (v : Byte) (b : Bool) {k : Nat} (hk : k < 8)
include hk

theorem getLsbD_shiftLeft_bit : (shiftLeft v b).getLsbD k = if k = 0 then b else v.getLsbD (k - 1) := by
  rw [shiftLeft, BitVec.getLsbD_or, BitVec.getLsbD_shiftLeft, BitVec.getLsbD_setWidth, BitVec.getLsbD_ofBool, decide_eq_true hk]
  by_cases hzero : k = 0 <;> simp [hzero]

theorem getLsbD_shiftRight_bit : (shiftRight v b).getLsbD k = if k = 7 then b else v.getLsbD (k + 1) := by
  rw [shiftRight, BitVec.getLsbD_or, BitVec.getLsbD_ushiftRight, BitVec.getLsbD_shiftLeft, BitVec.getLsbD_setWidth,
    BitVec.getLsbD_ofBool, Nat.add_comm 1 k]
  by_cases hseven : k = 7
  · simp [hseven]
  · have hlow : k < 7 := by omega
    simp [hseven, hlow]

/-- A rotate moves bit 7 of `v` into bit 0, or bit 0 into bit 7; another operation moves in the bit its rule names
(45_rotate_bit.md R406 to R413). -/
theorem Rot.getLsbD_run (kind : Rot) (c : Bool) : (kind.run v c).1.getLsbD k = kind.bit v c k := by
  cases kind with
  | rlc =>
    refine (getLsbD_shiftLeft_bit v _ hk).trans ?_
    show _ = v.getLsbD ((k + 7) % 8)
    split
    case isTrue h => rw [h]
    case isFalse h => rw [show (k + 7) % 8 = k - 1 by omega]
  | rrc =>
    refine (getLsbD_shiftRight_bit v _ hk).trans ?_
    show _ = v.getLsbD ((k + 1) % 8)
    split
    case isTrue h => rw [h]
    case isFalse h => rw [Nat.mod_eq_of_lt (by omega)]
  | rl | sla | sll => exact getLsbD_shiftLeft_bit v _ hk
  | rr | sra | srl => exact getLsbD_shiftRight_bit v _ hk

end

theorem Rot.run_out (kind : Rot) (v : Byte) (c : Bool) : (kind.run v c).2 = kind.out v := by cases kind <;> rfl

/-! ### The accumulator rotates -/

theorem rotAFlags_eq (a : Byte) (c : Bool) (f : Byte) :
    rotAFlags a c f = Flags.pack ⟨flagS f, flagZ f, false, flagPV f, false, c, a.getLsbD 5, a.getLsbD 3⟩ := rfl

/-- Every accumulator rotate writes its result to A, then F (45_rotate_bit.md R400 to R403). -/
theorem exec_of_rotAOf {i : Instr} {kind : Rot} (h : rotAOf i = some kind) (s : State) :
    let r := (kind.run s.a (flagC s.f)).1
    let p := (r, rotAFlags r (kind.out s.a) s.f)
    exec i s = .next (((s.setA p.1).writeFlags p.2).took 4) := by
  unfold rotAOf at h
  split at h <;> cases h <;> rfl

/-- Settles O47: `Rot.getLsbD_run` names the bits of A, `rotAFlags_eq` the flags. -/
theorem accumulatorRotates : Obligations.AccumulatorRotates := by
  unfold Obligations.AccumulatorRotates
  refine ⟨rfl, rfl, rfl, rfl, fun i kind s h => ?_⟩
  obtain ⟨t, hexec, hcycles, ha, hrest⟩ :=
    exec_accumulator (exec_of_rotAOf h s) (congrArg (Prod.mk _) (rotAFlags_eq ..))
  refine ⟨t, hexec, hcycles, ?_⟩
  rw [ha]
  exact ⟨fun k hk => kind.getLsbD_run s.a hk _, hrest⟩

/-! ### The CB rotates and shifts -/

/-- The operation of a CB rotate or shift, with its flags by name (45_rotate_bit.md R405). -/
theorem rotOp_run (kind : Rot) (t : State) (v : Byte) :
    let w := (kind.run v (flagC t.f)).1
    rotOp kind.run t v = (w, t.writeFlags (Flags.pack
      ⟨decide (w.toInt < 0), w == 0, false, evenOnes w, false, kind.out v, w.getLsbD 5, w.getLsbD 3⟩)) := by
  intro w
  rw [← szxyp_eq, ← kind.run_out v (flagC t.f)]
  rfl

/-- Settles O48: `Rot.getLsbD_run` names the bits of the result, `rotOp_run` the flags, written back as `exec_rmw` says. -/
theorem rotatesAndShifts : Obligations.RotatesAndShifts := by
  unfold Obligations.RotatesAndShifts
  intro i kind place cycles s h v
  obtain ⟨t, hexec, hcycles, hleaves, hflags⟩ := exec_rmw h fun t ht => (rotOp_run kind t v).trans (by rw [ht])
  exact ⟨t, _, hexec, hcycles, fun k hk => kind.getLsbD_run v hk _, hleaves, hflags⟩

/-! ### RES and SET -/

theorem getLsbD_bitMask (b : BitVec 3) (k : Nat) : (bitMask b).getLsbD k = decide (k = b.toNat) := by
  have hb : b.toNat < 8 := b.isLt
  refine (BitVec.getLsbD_twoPow b.toNat k).trans ?_
  rw [decide_eq_true hb, Bool.true_and, decide_eq_decide, eq_comm]

/-- RES and SET give the byte with the one bit changed, and leave the state (45_rotate_bit.md R425, R426). -/
theorem Rmw.op_of_res_or_set {op : Rmw} {b : BitVec 3} (h : op = .res b ∨ op = .set b) (v : Byte) :
    ∃ w : Byte, (∀ t : State, op.op t v = (w, t)) ∧
      ∀ k < 8, w.getLsbD k = if k = b.toNat then decide (op = .set b) else v.getLsbD k := by
  rcases h with rfl | rfl
  case inl =>
    refine ⟨v &&& ~~~(bitMask b), fun _ => rfl, fun k hk => ?_⟩
    rw [BitVec.getLsbD_and, BitVec.getLsbD_not, getLsbD_bitMask, decide_eq_true hk]
    split <;> simp [*]
  case inr =>
    refine ⟨v ||| bitMask b, fun _ => rfl, fun k _ => ?_⟩
    rw [BitVec.getLsbD_or, getLsbD_bitMask]
    split <;> simp [*]

/-- What a read-modify-write instruction leaves whose operation gives the byte `w` and writes no flag. -/
theorem exec_rmw_of_no_flags {i : Instr} {op : Rmw} {place : RmwPlace} {cycles : Nat} (h : rmwOf i = some (op, place, cycles))
    {s : State} {w : Byte} (hop : ∀ t : State, op.op t (s.readSrc place.src).1 = (w, t)) :
    ∃ t : State, exec i s = .next t ∧ t.stepCycles = cycles ∧ s.rmwLeaves place w t ∧ t.f = s.f := by
  have hread := s.operand_state place.src
  have hexec := exec_of_rmwOf h s
  simp only [s.operand_byte, hop] at hexec
  refine ⟨_, hexec, rfl, State.writeBack_leaves (f := s.f) (hread.trans rfl) w cycles, ?flags⟩
  case flags => exact (State.writeBack_f ..).trans (by rw [hread]; rfl)

/-- Settles O49: `Rmw.op_of_res_or_set` names the bits, and `exec_rmw_of_no_flags` says where the byte is found. -/
theorem resAndSet : Obligations.ResAndSet := by
  unfold Obligations.ResAndSet
  intro i op b place cycles s h hop v
  obtain ⟨w, hw, hbits⟩ := Rmw.op_of_res_or_set hop v
  obtain ⟨t, hexec, hcycles, hrest⟩ := exec_rmw_of_no_flags h hw
  exact ⟨t, w, hexec, hcycles, hbits, hrest⟩

/-! ### RLD and RRD -/

section
variable (v : Byte)

theorem shiftLeft_four_toNat : (v <<< 4).toNat = v.toNat % 16 * 16 := by
  rw [BitVec.toNat_shiftLeft, Nat.shiftLeft_eq]
  omega

theorem shiftRight_four_toNat : (v >>> 4).toNat = v.toNat / 16 := by
  rw [BitVec.toNat_ushiftRight, Nat.shiftRight_eq_div_pow]

theorem and_0xF0_toNat : (v &&& 0xF0).toNat = v.toNat / 16 * 16 := by
  have hmask : v &&& (0xF0 : Byte) = v >>> 4 <<< 4 := by
    rw [BitVec.shiftLeft_ushiftRight]
    rfl
  have hv := v.isLt
  rw [hmask, shiftLeft_four_toNat, shiftRight_four_toNat, Nat.mod_eq_of_lt (by omega)]

end

/-- A byte put together from its two digits. -/
theorem or_toNat_of_digits {x y : Byte} {high low : Nat} (hx : x.toNat = high * 16) (hy : y.toNat = low) (hlow : low < 16) :
    (x ||| y).toNat = high * 16 + low := by
  rw [BitVec.toNat_or, hx, hy, Nat.mul_comm, ← Nat.two_pow_add_eq_or_of_lt (i := 4) hlow]

theorem or_eq_ofNat_of_digits {x y : Byte} {high low : Nat} (hx : x.toNat = high * 16) (hy : y.toNat = low) (hlow : low < 16) :
    x ||| y = BitVec.ofNat 8 (high * 16 + low) := by
  rw [← or_toNat_of_digits hx hy hlow, BitVec.ofNat_toNat, BitVec.setWidth_eq]

section
variable (s : State) (mem acc : Byte → Byte → Byte)

/-- In the CPU, a digit rotate writes A, F and WZ only (45_rotate_bit.md R415). -/
theorem State.rotateDigits_cpu :
    (s.rotateDigits mem acc).cpu = { s.cpu with
      main := { s.cpu.main with a := acc s.a (s.memRead s.hl).1, f := (s.rotateDigits mem acc).f }, wz := s.hl + 1 } := by
  rw [State.rotateDigits, State.writeFlags_state, State.memWrite_after_memRead]
  rfl

/-- Outside the CPU and the count of draws, a digit rotate is its one store. -/
theorem State.rotateDigits_frame :
    s.rotateDigits mem acc = { State.writeAll [(s.hl, mem s.a (s.memRead s.hl).1)] { s with io := (s.memRead s.hl).2.io } with
      cpu := (s.rotateDigits mem acc).cpu
      draws := (s.rotateDigits mem acc).draws } := by
  rw [State.rotateDigits, State.writeFlags_state, State.memWrite_after_memRead]
  rfl

end

/-- What an instruction leaves that is a digit rotate. -/
theorem exec_rotateDigits {s : State} {mem acc : Byte → Byte → Byte} {i : Instr} {cycles : Nat}
    (h : exec i s = .next ((s.rotateDigits mem acc).took cycles)) {stored : Byte} (hmem : mem s.a (s.memRead s.hl).1 = stored) :
    ∃ t : State, exec i s = .next t ∧ t.stepCycles = cycles ∧ t.a = acc s.a (s.memRead s.hl).1 ∧
      t.flagsAre ⟨decide (t.a.toInt < 0), t.a == 0, false, evenOnes t.a, false, flagC s.f, t.a.getLsbD 5, t.a.getLsbD 3⟩ ∧
      t.cpu = { s.cpu with main := { s.cpu.main with a := t.a, f := t.f }, wz := s.hl + 1 } ∧
      s.Stores (s.memRead s.hl).2.io [(s.hl, stored)] t := by
  have hcpu := s.rotateDigits_cpu mem acc
  have ha : ((s.rotateDigits mem acc).took cycles).a = acc s.a (s.memRead s.hl).1 := congrArg (·.main.a) hcpu
  subst hmem
  refine ⟨_, h, rfl, ha, ?_⟩
  rw [ha]
  refine ⟨State.flagsAre_congr rfl rfl (State.writeFlags_szxyp ..), hcpu, State.stores_of_eq ?frame⟩
  case frame => exact congrArg (State.took · cycles) (s.rotateDigits_frame mem acc)

/-- Settles O50: `exec_rotateDigits` for each direction, with the digits of the bytes as numbers. -/
theorem digitRotates : Obligations.DigitRotates := by
  unfold Obligations.DigitRotates
  refine ⟨rfl, rfl, fun s left => ?_⟩
  intro v stored
  have hlow (x : Byte) : x.toNat % 16 < 16 := Nat.mod_lt _ (by decide)
  have hhigh : v.toNat / 16 < 16 := Nat.div_lt_of_lt_mul v.isLt
  cases left with
  | true =>
    have hmem := or_eq_ofNat_of_digits (shiftLeft_four_toNat v) (and_0x0F_toNat s.a) (hlow s.a)
    have hacc := or_toNat_of_digits (and_0xF0_toNat s.a) (shiftRight_four_toNat v) hhigh
    obtain ⟨t, hexec, hcycles, ha, hrest⟩ := exec_rotateDigits (i := .rld) (s := s) rfl hmem
    exact ⟨t, hexec, hcycles, (congrArg BitVec.toNat ha).trans hacc, hrest⟩
  | false =>
    have hmem := or_eq_ofNat_of_digits (shiftLeft_four_toNat s.a) (shiftRight_four_toNat v) hhigh
    have hacc := or_toNat_of_digits (and_0xF0_toNat s.a) (and_0x0F_toNat v) (hlow v)
    obtain ⟨t, hexec, hcycles, ha, hrest⟩ := exec_rotateDigits (i := .rrd) (s := s) rfl hmem
    exact ⟨t, hexec, hcycles, (congrArg BitVec.toNat ha).trans hacc, hrest⟩

/-! ### BIT -/

theorem and_bitMask_beq_zero (v : Byte) (b : BitVec 3) : (v &&& bitMask b == 0) = !v.getLsbD b.toNat := by
  cases hbit : v.getLsbD b.toNat with
  | true =>
    have hone : (v &&& bitMask b).getLsbD b.toNat = true := by
      rw [BitVec.getLsbD_and, hbit, getLsbD_bitMask, decide_eq_true rfl, Bool.true_and]
    exact beq_false_of_ne fun hzero => by simp [hzero] at hone
  | false =>
    refine beq_of_eq (BitVec.eq_of_getLsbD_eq fun k _ => ?_)
    rw [BitVec.getLsbD_and, getLsbD_bitMask]
    by_cases hk : k = b.toNat <;> simp [hk, hbit]

theorem bitFlags_eq (b : BitVec 3) (v : Byte) (y x : Bool) (f : Byte) :
    bitFlags b v y x f = Flags.pack ⟨v.getLsbD b.toNat && b == 7, !v.getLsbD b.toNat, true, !v.getLsbD b.toNat, false, flagC f,
      y, x⟩ := by
  have hone : (v &&& bitMask b != 0) = v.getLsbD b.toNat := by rw [bne, and_bitMask_beq_zero, Bool.not_not]
  simp only [bitFlags, hone, and_bitMask_beq_zero, Bool.and_comm (b == 7)]
  rfl

theorem getLsbD_hi (w : Word) {k : Nat} (hk : k < 8) : (hi w).getLsbD k = w.getLsbD (8 + k) := by
  rw [hi, BitVec.getLsbD_extractLsb', decide_eq_true hk, Bool.true_and]

/-- What an instruction leaves that reads an operand, then writes the flags of BIT, with Y and X those bits of `yx`. -/
theorem exec_bit {i : Instr} {b : BitVec 3} {src : Src} {cycles : Nat} {s : State} {yx : Byte}
    (h : exec i s = .next (((s.operand src).2.writeFlags
      (bitFlags b (s.operand src).1 (yx.getLsbD 5) (yx.getLsbD 3) s.f)).took cycles)) :
    let one := (s.readSrc src).1.getLsbD b.toNat
    ∃ t : State, exec i s = .next t ∧ t.stepCycles = cycles ∧
      t.flagsAre ⟨one && b == 7, !one, true, !one, false, flagC s.f, yx.getLsbD 5, yx.getLsbD 3⟩ ∧
      t.cpu = { s.cpu with main := { s.cpu.main with f := t.f }, wz := s.wzAfterRead src } ∧
      s.KeepsAll (s.readSrc src).2 t := by
  have hread := s.operand_state src
  have hkeep : (s.operand src).2.setA s.a = (s.operand src).2 := by
    rw [hread]
    rfl
  rw [s.operand_byte, bitFlags_eq, ← hkeep] at h
  obtain ⟨-, hflags, hcpu, hframe⟩ := State.writeAccumulator hread s.a _ cycles
  exact ⟨_, h, rfl, hflags, hcpu, hframe⟩

/-- Settles O51: each form is `exec_bit` with the byte that its rule takes Y and X from. -/
theorem bitTests : Obligations.BitTests := by
  unfold Obligations.BitTests
  intro i b src cycles s h
  unfold bitOf at h
  split at h <;> cases h
  case h_1 r => exact exec_bit (yx := s.reg8 r) rfl
  case h_2 =>
    refine exec_bit (yx := hi s.cpu.wz) ?_
    rw [getLsbD_hi _ (by decide), getLsbD_hi _ (by decide)]
    rfl
  case h_3 p d _ =>
    refine exec_bit (yx := hi (displaced (s.index p) d)) ?_
    rw [getLsbD_hi _ (by decide), getLsbD_hi _ (by decide), ← s.dispAddr_eq]
    rfl

end Sys2Proof.Machine
end

section
/-! SUPPORT. The proofs of O52, O53 and O54. The conditions as bits of F; then every jump, every call and every return is one
equation: a target that PC and WZ take, a word pushed before or popped first (46_control.md R450 to R475). -/

namespace Sys2Proof.Machine

/-! ### The conditions -/

/-- A mask of one bit tells whether the bit is set. -/
theorem and_twoPow_eq_zero_iff (f : Byte) {k : Nat} (hk : k < 8) : f &&& BitVec.twoPow 8 k = 0 ↔ f.getLsbD k = false := by
  have hbit : BitVec.twoPow 8 k ≠ 0 := fun h => by simpa [hk] using congrArg (·.getLsbD k) h
  rw [BitVec.and_twoPow]
  cases f.getLsbD k with
  | true => simpa using hbit
  | false => simp

/-- A condition, and the other one of its pair, on bit `k` of F (46_control.md R450). -/
theorem bit_iff_and_twoPow (f : Byte) {k : Nat} (hk : k < 8) :
    ((!f.getLsbD k) = true ↔ f &&& BitVec.twoPow 8 k = 0) ∧ (f.getLsbD k = true ↔ f &&& BitVec.twoPow 8 k ≠ 0) := by
  rw [Ne, and_twoPow_eq_zero_iff f hk]
  cases f.getLsbD k <;> decide

/-- Each condition is the value of its bit of F (46_control.md R450). -/
theorem condHolds_iff (f : Byte) :
    (condHolds .nz f = true ↔ f &&& 0x40 = 0) ∧ (condHolds .z f = true ↔ f &&& 0x40 ≠ 0) ∧
    (condHolds .nc f = true ↔ f &&& 0x01 = 0) ∧ (condHolds .c f = true ↔ f &&& 0x01 ≠ 0) ∧
    (condHolds .po f = true ↔ f &&& 0x04 = 0) ∧ (condHolds .pe f = true ↔ f &&& 0x04 ≠ 0) ∧
    (condHolds .p f = true ↔ f &&& 0x80 = 0) ∧ (condHolds .m f = true ↔ f &&& 0x80 ≠ 0) := by
  obtain ⟨hnz, hz⟩ := bit_iff_and_twoPow f (k := 6) (by decide)
  obtain ⟨hnc, hc⟩ := bit_iff_and_twoPow f (k := 0) (by decide)
  obtain ⟨hpo, hpe⟩ := bit_iff_and_twoPow f (k := 2) (by decide)
  obtain ⟨hp, hm⟩ := bit_iff_and_twoPow f (k := 7) (by decide)
  exact ⟨hnz, hz, hnc, hc, hpo, hpe, hp, hm⟩

/-! ### Jumps -/

theorem State.jumpBy_eq (s : State) (e : Byte) : s.jumpBy e = s.jumpTo (displaced s.cpu.pc e) :=
  congrArg s.jumpTo (add_sext16 ..)

/-- Every jump but DJNZ writes PC where it is taken, and WZ (46_control.md R451 to R454, R456, R457). -/
theorem exec_of_jumpOf {s : State} {i : Instr} {taken : Bool} {target wz : Word} {cycles : Nat}
    (h : s.jumpOf i = some (taken, target, wz, cycles)) :
    exec i s = .next (((s.setPc (if taken then target else s.cpu.pc)).setWz wz).took cycles) := by
  cases i with
  | jp _ | jpHL | jpXY _ => cases h; rfl
  | jpCc cc nn =>
    cases h
    show Host.Outcome.next ((if condHolds cc s.f then s.jumpTo target else s.setWz target).took 10) = _
    cases condHolds cc s.f <;> rfl
  | jr e => cases h; exact congrArg (fun t => Host.Outcome.next (t.took 12)) (s.jumpBy_eq e)
  | jrCc cc e =>
    change (if condHolds cc s.f then _ else _) = _ at h
    show Host.Outcome.next (if condHolds cc s.f then (s.jumpBy e).took 12 else s.took 7) = _
    rw [s.jumpBy_eq e]
    generalize condHolds cc s.f = holds at h ⊢
    cases holds <;> cases h <;> rfl
  | _ => cases h

/-- DJNZ counts B down, and jumps unless B was 1 (46_control.md R455). -/
theorem exec_djnz (e : Byte) (s : State) :
    let t := s.setMain { s.cpu.main with b := s.cpu.main.b - 1 }
    exec (.djnz e) s = .next (if s.cpu.main.b = 1 then t.took 8 else (t.jumpTo (displaced s.cpu.pc e)).took 13) := by
  intro t
  have hzero : (s.cpu.main.b - 1 != 0) = !decide (s.cpu.main.b = 1) := congrArg (!·) (sub_beq_zero s.cpu.main.b 1)
  show Host.Outcome.next (if s.cpu.main.b - 1 != 0 then (t.jumpBy e).took 13 else t.took 8) = _
  rw [hzero, t.jumpBy_eq]
  by_cases hone : s.cpu.main.b = 1
  · rw [if_pos hone, decide_eq_true hone]
    rfl
  · rw [if_neg hone, decide_eq_false hone]
    rfl

theorem byte_sub_one_eq_ofInt (v : Byte) : v - 1 = BitVec.ofInt 8 (v.toNat - 1) := by
  simpa using sub_sub_ofBool v 1 false

/-- Settles O52, by the bits of F, `exec_of_jumpOf` and `exec_djnz`. -/
theorem jumps : Obligations.Jumps := by
  unfold Obligations.Jumps
  refine ⟨condHolds_iff, fun i taken target wz cycles s h => ?jump, fun e s => ?djnz⟩
  case jump => exact ⟨_, exec_of_jumpOf h, rfl, rfl, State.keepsAll_of_eq rfl⟩
  case djnz =>
    intro b target
    refine ⟨_, exec_djnz e s, ?_⟩
    rw [byte_sub_one_eq_ofInt]
    by_cases hone : s.cpu.main.b = 1
    · simp only [if_pos hone]
      exact ⟨rfl, rfl, State.keepsAll_of_eq rfl⟩
    · simp only [if_neg hone]
      exact ⟨rfl, rfl, State.keepsAll_of_eq rfl⟩

/-! ### Calls -/

/-- Entering a handler, as RST does too: the old PC pushed, PC and WZ at the target (46_control.md R475). -/
theorem State.enterHandler_eq (s : State) (target : Word) :
    let u := State.writeAll [(s.cpu.sp - 1, hi s.cpu.pc), (s.cpu.sp - 2, lo s.cpu.pc)] s
    s.enterHandler target = { s with
      cpu := { s.cpu with sp := s.cpu.sp - 2, pc := target, wz := target }, mem := u.mem, io := u.io } := by
  intro u
  rw [State.enterHandler, State.push_eq]
  rfl

/-- A push does not look at WZ. -/
theorem State.push_setWz (s : State) (w v : Word) : (s.setWz w).push v = (s.push v).setWz w := by
  have hwrite (l : List (Word × Byte)) : State.writeAll l (s.setWz w) = (State.writeAll l s).setWz w := by
    refine (State.writeAll_withCpu l s { s.cpu with wz := w } s.draws s.stepCycles).trans ?_
    rw [State.writeAll_state]
    rfl
  rw [State.push_eq, State.push_eq, hwrite]
  rfl

/-- A call writes WZ before the push and RST after it, to the same effect (46_control.md R460, R475). -/
theorem State.setWz_callTo (s : State) (target : Word) : (s.setWz target).callTo target = s.enterHandler target :=
  congrArg (·.setPc target) (s.push_setWz target s.cpu.pc)

/-- Every call and RST, where taken, pushes the next instruction's address and goes to the target (46_control.md R460, R461,
R475). -/
theorem exec_of_callOf {s : State} {i : Instr} {taken : Bool} {target : Word} {cycles : Nat}
    (h : s.callOf i = some (taken, target, cycles)) :
    exec i s = .next ((if taken then s.enterHandler target else s.setWz target).took cycles) := by
  cases i with
  | call _ => cases h; exact congrArg (fun t => Host.Outcome.next (t.took 17)) (s.setWz_callTo target)
  | callCc cc nn =>
    change (if condHolds cc s.f then _ else _) = _ at h
    show Host.Outcome.next (if condHolds cc s.f then ((s.setWz nn).callTo nn).took 17 else (s.setWz nn).took 10) = _
    rw [s.setWz_callTo]
    generalize condHolds cc s.f = holds at h ⊢
    cases holds <;> cases h <;> rfl
  | rst _ => cases h; rfl
  | _ => cases h

/-- Settles O53, by `exec_of_callOf` and what entering a handler does. -/
theorem calls : Obligations.Calls := by
  unfold Obligations.Calls
  intro i taken target cycles s h
  refine ⟨_, exec_of_callOf h, rfl, ?_⟩
  cases taken with
  | true =>
    simp only [if_true]
    rw [State.enterHandler_eq]
    refine ⟨rfl, State.stores_of_eq ?_⟩
    rw [State.writeAll_state]
    rfl
  | false => exact ⟨rfl, State.keepsAll_of_eq rfl⟩

/-! ### Returns -/

/-- What a return does besides the interrupt enables: PC and WZ take the word at SP, low byte read first, and SP goes past it
(46_control.md R462). -/
theorem State.popPc_eq (s : State) :
    let low := s.memRead s.cpu.sp
    let high := low.2.memRead (s.cpu.sp + 1)
    s.popPc = { s with
      cpu := { s.cpu with sp := s.cpu.sp + 2, pc := high.1 ++ low.1, wz := high.1 ++ low.1 }
      io := high.2.io
      draws := high.2.draws } := by
  intro low high
  rw [State.popPc, State.pop_eq]
  rfl

/-- Every return, where taken, pops PC and writes IFF1; IFF2 stays (46_control.md R462, R463, R470). -/
theorem exec_of_returnOf {s : State} {i : Instr} {taken iff1 : Bool} {cycles : Nat}
    (h : s.returnOf i = some (taken, iff1, cycles)) :
    exec i s = .next ((if taken then s.popPc.setIff iff1 s.cpu.iff2 else s).took cycles) := by
  have hret : s.popPc.setIff s.cpu.iff1 s.cpu.iff2 = s.popPc := by rw [State.popPc_eq]; rfl
  have hint : s.returnFromInterrupt = s.popPc.setIff s.cpu.iff2 s.cpu.iff2 := by
    show s.popPc.setIff s.popPc.cpu.iff2 s.popPc.cpu.iff2 = _
    rw [State.popPc_eq]
  cases i with
  | ret => cases h; rw [hret]; rfl
  | retCc cc =>
    change (if condHolds cc s.f then _ else _) = _ at h
    show Host.Outcome.next (if condHolds cc s.f then s.popPc.took 11 else s.took 5) = _
    generalize condHolds cc s.f = holds at h ⊢
    cases holds with
    | true => cases h; rw [hret]; rfl
    | false => cases h; rfl
  | retn _ | reti => cases h; exact congrArg (fun t => Host.Outcome.next (t.took 14)) hint
  | _ => cases h

/-- Settles O54, by `exec_of_returnOf` and what popping PC does. -/
theorem returns : Obligations.Returns := by
  unfold Obligations.Returns
  intro i taken iff1 cycles s h low high
  refine ⟨_, exec_of_returnOf h, rfl, ?_⟩
  cases taken with
  | true =>
    simp only [if_true]
    rw [State.popPc_eq]
    exact ⟨rfl, State.keepsAll_of_eq rfl⟩
  | false => exact ⟨rfl, State.keepsAll_of_eq rfl⟩

end Sys2Proof.Machine
end

section
/-! SUPPORT. For O8 to O10, O16 and O17: within a step the devices do not advance (60_exceptions.md R622). Every bus access keeps the
counters of timer and beam, so every instruction and every acceptance does. -/

namespace Sys2Proof.Machine

/-! ### What a bus access leaves of timer and beam -/

/-- The configuration of `s` and devices at the time of `s`: every counter of timer and beam as it was, and, where VIDEO_DEV leaves no
behaviour undefined, none reached (60_exceptions.md R607, R622). -/
structure AtTimeOf (s : State) (cfg : Config) (io : IoDevices) : Prop where
  cfg : cfg = s.cfg
  timer : io.timer = s.io.timer
  line : io.video.line = s.io.video.line
  dot : io.video.dot = s.io.video.dot
  frameCount : io.video.frameCount = s.io.video.frameCount
  undef : s.cfg.videoUndefined = [] → io.video.undef = s.io.video.undef

/-- `t` is at the time of `s`: the devices have not advanced between them. -/
abbrev State.KeepsTime (s t : State) : Prop := AtTimeOf s t.cfg t.io

/-- A call that VIDEO_DEV defines does not set the mark. -/
theorem Video.calling_undef_of_defined (v : Video) (cfg : Config) (call : VideoCall) (h : cfg.videoUndefined = []) :
    (v.calling cfg call).undef = v.undef :=
  congrArg Video.undef (v.calling_defined cfg call h)

namespace State.KeepsTime

theorem refl (s : State) : s.KeepsTime s := ⟨rfl, rfl, rfl, rfl, rfl, fun _ => rfl⟩

section
variable {s t : State}

theorem trans {u : State} (h : s.KeepsTime t) (h' : t.KeepsTime u) : s.KeepsTime u where
  cfg := h'.cfg.trans h.cfg
  timer := h'.timer.trans h.timer
  line := h'.line.trans h.line
  dot := h'.dot.trans h.dot
  frameCount := h'.frameCount.trans h.frameCount
  undef hdef := (h'.undef (h.cfg ▸ hdef)).trans (h.undef hdef)

/-- An operation that leaves configuration and devices alone may follow. -/
theorem of_eq {u : State} (h : s.KeepsTime t) (hcfg : u.cfg = t.cfg) (hio : u.io = t.io) : s.KeepsTime u := by
  unfold State.KeepsTime
  rw [hcfg, hio]
  exact h

/-- The CPU, the count of draws and the cycles are no part of the time. -/
theorem cpu (h : s.KeepsTime t) {c : Cpu} {d n : Nat} : s.KeepsTime { t with cpu := c, draws := d, stepCycles := n } := h

theorem setMain (h : s.KeepsTime t) {m : RegSet} : s.KeepsTime (t.setMain m) := h

theorem setWz (h : s.KeepsTime t) {w : Word} : s.KeepsTime (t.setWz w) := h

theorem jumpTo (h : s.KeepsTime t) {w : Word} : s.KeepsTime (t.jumpTo w) := h

theorem took (h : s.KeepsTime t) {n : Nat} : s.KeepsTime (t.took n) := h

theorem readTarget (h : s.KeepsTime t) (target : BusTarget) : s.KeepsTime (t.readTarget target).2 := h.trans <| by
  cases target with
  | device reg =>
    cases reg with
    | kbd _ | pio _ => exact ⟨rfl, rfl, rfl, rfl, rfl, fun _ => rfl⟩
    | video k => exact ⟨rfl, rfl, rfl, rfl, rfl, Video.calling_undef_of_defined _ _ _⟩
  | ram _ | rom _ | unmapped => exact refl t

theorem writeTarget (h : s.KeepsTime t) (target : BusTarget) (v : Byte) : s.KeepsTime (t.writeTarget target v) := h.trans <| by
  cases target with
  | device reg =>
    cases reg with
    | kbd _ | pio _ => exact ⟨rfl, rfl, rfl, rfl, rfl, fun _ => rfl⟩
    | video k => exact ⟨rfl, rfl, rfl, rfl, rfl, Video.calling_undef_of_defined _ _ _⟩
  | ram _ | rom _ | unmapped => exact ⟨rfl, rfl, rfl, rfl, rfl, fun _ => rfl⟩

theorem memRead (h : s.KeepsTime t) {a : Word} : s.KeepsTime (t.memRead a).2 := h.readTarget _

theorem ioRead (h : s.KeepsTime t) {a : Word} : s.KeepsTime (t.ioRead a).2 := h.readTarget _

theorem memWrite (h : s.KeepsTime t) {a : Word} {v : Byte} : s.KeepsTime (t.memWrite a v) := h.writeTarget _ v

theorem ioWrite (h : s.KeepsTime t) {a : Word} {v : Byte} : s.KeepsTime (t.ioWrite a v) := h.writeTarget _ v

theorem writeFlags (h : s.KeepsTime t) {f : Byte} : s.KeepsTime (t.writeFlags f) :=
  h.of_eq (t.writeFlags_cfg f) (t.writeFlags_io f)

theorem setIndex (h : s.KeepsTime t) {p : IndexReg} {v : Word} : s.KeepsTime (t.setIndex p v) :=
  h.of_eq (t.setIndex_cfg p v) (t.setIndex_io p v)

theorem setPair (h : s.KeepsTime t) {rp : RegPair} {v : Word} : s.KeepsTime (t.setPair rp v) := by
  cases rp <;> exact h

theorem setXYReg8 (h : s.KeepsTime t) {p : IndexReg} {r : XYReg8} {v : Byte} : s.KeepsTime (t.setXYReg8 p r v) := by
  cases r with
  | xyh | xyl => exact h.setIndex
  | b | c | d | e | a => exact h

theorem setStackPair (h : s.KeepsTime t) {rp : StackPair} {v : Word} : s.KeepsTime (t.setStackPair rp v) := by
  cases rp with
  | bc | de | hl => exact h
  | af => exact h.cpu.writeFlags

theorem ite {b : Bool} {u : State} (ht : s.KeepsTime t) (hu : s.KeepsTime u) : s.KeepsTime (if b then t else u) := by
  cases b with
  | true => exact ht
  | false => exact hu

theorem push (h : s.KeepsTime t) {v : Word} : s.KeepsTime (t.push v) :=
  h.cpu.memWrite.cpu.memWrite

theorem pop (h : s.KeepsTime t) : s.KeepsTime t.pop.2 := h.memRead.cpu.memRead

theorem popPc (h : s.KeepsTime t) : s.KeepsTime t.popPc := h.pop.jumpTo

theorem readDisp (h : s.KeepsTime t) {p : IndexReg} {d : Byte} : s.KeepsTime (t.readDisp p d).2 := h.cpu.memRead

theorem memRead16 (h : s.KeepsTime t) {a : Word} : s.KeepsTime (t.memRead16 a).2 := h.memRead.memRead

theorem memWrite16 (h : s.KeepsTime t) {a v : Word} : s.KeepsTime (t.memWrite16 a v) := h.memWrite.memWrite

theorem exchangeSP (h : s.KeepsTime t) {v : Word} : s.KeepsTime (t.exchangeSP v).2 := h.memRead.memRead.memWrite.memWrite

theorem rotateDigits (h : s.KeepsTime t) {mem acc : Byte → Byte → Byte} : s.KeepsTime (t.rotateDigits mem acc) :=
  h.memRead.memWrite.cpu.writeFlags

theorem copyStep (h : s.KeepsTime t) {step : Word} : s.KeepsTime (t.copyStep step) := h.memRead.memWrite.cpu.writeFlags

theorem searchStep (h : s.KeepsTime t) {step : Word} : s.KeepsTime (t.searchStep step).2 := h.memRead.cpu.writeFlags

theorem inStep (h : s.KeepsTime t) {step : Word} : s.KeepsTime (t.inStep step) := h.ioRead.cpu.memWrite.cpu.writeFlags

theorem outStep (h : s.KeepsTime t) {step : Word} : s.KeepsTime (t.outStep step) := h.memRead.cpu.ioWrite.cpu.writeFlags

theorem repeatCopy (h : s.KeepsTime t) : s.KeepsTime t.repeatCopy := ite h h

theorem repeatSearch (h : s.KeepsTime t) {v : Byte} : s.KeepsTime (t.repeatSearch v) := ite h h

theorem repeatIo (h : s.KeepsTime t) : s.KeepsTime t.repeatIo := ite h h

theorem readBytes (h : s.KeepsTime t) (n : Nat) (a : Word) : s.KeepsTime (State.readBytes n a t).2 := by
  induction n generalizing t a with
  | zero => exact h
  | succ n ih => exact ih h.memRead (a + 1)

end

end State.KeepsTime

/-! ### Every instruction -/

/-- A meaning completes, and the devices have not advanced. -/
def State.EndsAtTime (s : State) (r : Result) : Prop := ∃ t : State, r = .next t ∧ s.KeepsTime t

/-- No instruction advances the devices. `exec_ends` says of them only that they fit the configuration, which no counter is told by;
here the bus accesses of each instruction stand in the order in which they act, with the writes of the CPU between them, which is no
part of the time. -/
theorem exec_endsAtTime (i : Instr) (s : State) : s.EndsAtTime (exec i s) := by
  have here : s.KeepsTime s := .refl s
  cases i with
  | nop | noni _ | ldRR _ _ | ldRN _ _ | ldSPHL | ldSPXY _ | exDEHL | exx | resR _ _ | setR _ _ | jp _ | jr _ | jpHL | jpXY _ | halt | di
  | ei | im _ | ldIA | ldRA | prefixIgnored _ => exact ⟨_, rfl, here.cpu⟩
  | jpCc _ _ => exact ⟨_, rfl, (here.cpu.ite here.cpu).cpu⟩
  | jrCc _ _ | djnz _ => exact ⟨_, rfl, here.cpu.ite here.cpu⟩
  | ldRXYH _ _ | ldRXYL _ _ => exact ⟨_, rfl, here.setXYReg8⟩
  | ldXYHR _ _ | ldXYLR _ _ | ldXYHN _ _ | ldXYLN _ _ | ldXYNn _ _ | incXY _ | decXY _ => exact ⟨_, rfl, here.setIndex⟩
  | ldRpNn _ _ | incRp _ | decRp _ => exact ⟨_, rfl, here.setPair⟩
  | ldRMemHL _ | ldAMemBC | ldAMemDE | ldAMemNn _ => exact ⟨_, rfl, here.memRead.cpu⟩
  | ldRMemXYd _ _ _ => exact ⟨_, rfl, here.readDisp.cpu⟩
  | ldMemHLR _ | ldMemHLN _ | ldMemBCA | ldMemDEA | ldMemNnA _ => exact ⟨_, rfl, here.memWrite.cpu⟩
  | ldMemXYdR _ _ _ | ldMemXYdN _ _ _ => exact ⟨_, rfl, here.cpu.memWrite.cpu⟩
  | ldHLMemNn _ => exact ⟨_, rfl, here.memRead16.setMain.setWz.took⟩
  | ldXYMemNn _ _ => exact ⟨_, rfl, here.memRead16.setIndex.setWz.took⟩
  | ldRpMemNn _ _ => exact ⟨_, rfl, here.memRead16.setPair.setWz.took⟩
  | ldMemNnHL _ | ldMemNnXY _ _ | ldMemNnRp _ _ => exact ⟨_, rfl, here.memWrite16.setWz.took⟩
  | pushRp2 _ | pushXY _ => exact ⟨_, rfl, here.push.took⟩
  | rst _ => exact ⟨_, rfl, here.push.jumpTo.took⟩
  | popRp2 _ => exact ⟨_, rfl, here.pop.setStackPair.took⟩
  | popXY _ => exact ⟨_, rfl, here.pop.setIndex.took⟩
  | exAFAF => exact ⟨_, rfl, here.cpu.writeFlags.cpu⟩
  | exMemSPHL => exact ⟨_, rfl, here.exchangeSP.setMain.setWz.took⟩
  | exMemSPXY _ => exact ⟨_, rfl, here.exchangeSP.setIndex.setWz.took⟩
  | ldi | ldd => exact ⟨_, rfl, here.copyStep.cpu⟩
  | ldir | lddr => exact ⟨_, rfl, here.copyStep.repeatCopy⟩
  | cpi | cpd => exact ⟨_, rfl, here.searchStep.cpu⟩
  | cpir | cpdr => exact ⟨_, rfl, here.searchStep.repeatSearch⟩
  | addAR _ | adcAR _ | subR _ | sbcAR _ | andR _ | xorR _ | orR _ | addAN _ | adcAN _ | subN _ | sbcAN _ | andN _ | xorN _
  | orN _ | addAXYH _ | adcAXYH _ | subXYH _ | sbcAXYH _ | andXYH _ | xorXYH _ | orXYH _ | addAXYL _ | adcAXYL _ | subXYL _
  | sbcAXYL _ | andXYL _ | xorXYL _ | orXYL _ | cpR _ | cpN _ | cpXYH _ | cpXYL _ | incR _ | decR _ | rlcR _ | rrcR _ | rlR _
  | rrR _ | slaR _ | sraR _ | sllR _ | srlR _ | bitR _ _ | daa | cpl | neg _ | ccf | scf | rlca | rrca | rla | rra | ldAI | ldAR
  | addHLRp _ | adcHLRp _ | sbcHLRp _ => exact ⟨_, rfl, here.cpu.writeFlags.cpu⟩
  | addXYRp _ _ => exact ⟨_, rfl, (here.cpu.setIndex).writeFlags.cpu⟩
  | incXYH _ | decXYH _ | incXYL _ | decXYL _ => exact ⟨_, rfl, here.writeFlags.setIndex⟩
  | addAMemHL | adcAMemHL | subMemHL | sbcAMemHL | andMemHL | xorMemHL | orMemHL | cpMemHL | bitMemHL _ =>
    exact ⟨_, rfl, here.memRead.cpu.writeFlags.cpu⟩
  | addAMemXYd _ _ | adcAMemXYd _ _ | subMemXYd _ _ | sbcAMemXYd _ _ | andMemXYd _ _ | xorMemXYd _ _ | orMemXYd _ _
  | cpMemXYd _ _ | bitMemXYd _ _ _ _ => exact ⟨_, rfl, here.readDisp.cpu.writeFlags.cpu⟩
  | incMemHL | decMemHL | rlcMemHL | rrcMemHL | rlMemHL | rrMemHL | slaMemHL | sraMemHL | sllMemHL | srlMemHL =>
    exact ⟨_, rfl, here.memRead.writeFlags.memWrite.cpu⟩
  | incMemXYd _ _ | decMemXYd _ _ | rlcMemXYd _ _ | rrcMemXYd _ _ | rlMemXYd _ _ | rrMemXYd _ _ | slaMemXYd _ _
  | sraMemXYd _ _ | sllMemXYd _ _ | srlMemXYd _ _ | rlcMemXYdR _ _ _ | rrcMemXYdR _ _ _ | rlMemXYdR _ _ _ | rrMemXYdR _ _ _
  | slaMemXYdR _ _ _ | sraMemXYdR _ _ _ | sllMemXYdR _ _ _ | srlMemXYdR _ _ _ =>
    exact ⟨_, rfl, here.readDisp.writeFlags.memWrite.cpu⟩
  | resMemHL _ | setMemHL _ => exact ⟨_, rfl, here.memRead.memWrite.cpu⟩
  | resMemXYd _ _ _ | setMemXYd _ _ _ | resMemXYdR _ _ _ _ | setMemXYdR _ _ _ _ => exact ⟨_, rfl, here.readDisp.memWrite.cpu⟩
  | rld | rrd => exact ⟨_, rfl, here.rotateDigits.took⟩
  | call _ => exact ⟨_, rfl, here.cpu.push.cpu⟩
  | callCc _ _ => exact ⟨_, rfl, here.cpu.push.cpu.ite here.cpu⟩
  | ret => exact ⟨_, rfl, here.popPc.took⟩
  | retn _ | reti => exact ⟨_, rfl, here.popPc.cpu⟩
  | retCc _ => exact ⟨_, rfl, here.popPc.cpu.ite here.cpu⟩
  | inAN _ => exact ⟨_, rfl, here.ioRead.cpu⟩
  | inC | inRC _ => exact ⟨_, rfl, here.ioRead.cpu.writeFlags.cpu⟩
  | outNA _ | outCR _ | outC0 => exact ⟨_, rfl, here.ioWrite.cpu⟩
  | ini | ind => exact ⟨_, rfl, here.inStep.cpu⟩
  | inir | indr => exact ⟨_, rfl, here.inStep.repeatIo⟩
  | outi | outd => exact ⟨_, rfl, here.outStep.cpu⟩
  | otir | otdr => exact ⟨_, rfl, here.outStep.repeatIo⟩

end Sys2Proof.Machine
end

section
/-! SUPPORT. The proofs of O16 and O17: what a CPU step leaves besides the instruction's own effect, what the ticks after it count, and
the machine step of a running machine. -/

namespace Sys2Proof

theorem Config.waitStates_eq_zero {cfg : Config} (h : cfg.check = none) : cfg.waitStates = 0 := by
  obtain ⟨-, -, -, -, -, hp⟩ := Config.check_eq_none.1 h
  simp only [Config.paramsOk, Bool.and_eq_true, beq_iff_eq] at hp
  omega

namespace Machine

/-! ### The CPU step -/

/-- A maskable acceptance enters a handler in 13 cycles, or one found by its table in 19 (60_exceptions.md R611 to R613). -/
theorem State.acceptInt_next {s u : State} (h : s.acceptInt = .next u) :
    (∃ target, u = (s.beginInt.enterHandler target).took 13) ∨ u = s.beginInt.enterByTable.took 19 := by
  unfold State.acceptInt at h
  split at h
  · split at h
    · exact .inl ⟨_, (Host.Outcome.next.inj h).symm⟩
    · cases h
  · exact .inl ⟨_, (Host.Outcome.next.inj h).symm⟩
  · exact .inr (Host.Outcome.next.inj h).symm

/-- The devices do not advance within a CPU step (60_exceptions.md R622). -/
theorem cpuStep_keepsTime {s u : State} (h : cpuStep s = .next u) : s.KeepsTime u := by
  have here : s.KeepsTime s := .refl s
  rcases cpuStep_next h with ⟨-, rfl⟩ | ⟨-, hint⟩ | ⟨-, rfl⟩ | ⟨-, hexec⟩
  · exact here.cpu.push.jumpTo.took
  · rcases State.acceptInt_next hint with ⟨target, rfl⟩ | rfl
    · exact here.cpu.push.jumpTo.took
    · exact here.cpu.push.memRead16.jumpTo.took
  · exact here.cpu
  · have hfetch : s.KeepsTime (s.fetched s.nextInstr) :=
      (here.readBytes s.nextInstr.length s.cpu.pc).of_eq (by rw [State.fetched_frame]; simp) (s.fetched_io _)
    obtain ⟨t, ht, htime⟩ := exec_endsAtTime s.nextInstr (s.fetched s.nextInstr)
    obtain rfl : u = t := Host.Outcome.next.inj (hexec.symm.trans ht)
    exact hfetch.trans htime

/-- What ends as `State.Ends` says keeps the clock and the lifecycle, and the vector byte where the registers that it leaves do. -/
theorem State.Ends.keeps {s u : State} {c : Cpu} {w : Bool} (h : s.Ends c w (.next u)) :
    u.clock = s.clock ∧ u.life = s.life ∧ u.cpu.intVec = c.intVec := by
  obtain ⟨t, ht, hl, -⟩ := h
  obtain rfl : u = t := Host.Outcome.next.inj ht
  exact ⟨hl.clock, hl.life, by rw [hl.cpu]⟩

/-- No CPU step changes the clock, the lifecycle or the vector byte. -/
theorem cpuStep_keeps {s u : State} (h : cpuStep s = .next u) :
    u.clock = s.clock ∧ u.life = s.life ∧ u.cpu.intVec = s.cpu.intVec := by
  rcases cpuStep_next h with ⟨-, rfl⟩ | ⟨-, hint⟩ | ⟨-, rfl⟩ | ⟨-, hexec⟩
  · exact s.acceptNmi_ends.keeps
  · exact (State.acceptInt_ends hint).keeps
  · exact s.haltedIdle_ends.keeps
  · obtain ⟨hclock, hlife, hvec⟩ := (hexec ▸ exec_ends s.nextInstr (s.fetched s.nextInstr) : State.Ends _ _ _ (.next u)).keeps
    obtain ⟨-, hcontrol, -⟩ := (s.fetched s.nextInstr).controlAfter_keeps s.nextInstr
    rw [hclock, hlife, hvec, hcontrol, State.fetched_frame]
    exact ⟨rfl, rfl, rfl⟩

/-! ### The ticks -/

/-- A scanline completes a frame where it leaves the last line (60_exceptions.md R642). -/
theorem Video.nextLine_frameCount {v : Video} {lines : Nat} (h : v.line < lines) :
    (v.nextLine lines).frameCount = v.frameCount + (v.line + 1) / lines := by
  unfold Video.nextLine
  split
  · next hl => rw [hl, Nat.div_self (by omega)]
  · next hl => rw [Nat.div_eq_of_lt (Nat.lt_of_le_of_ne h hl)]; rfl

/-- `n` scanlines complete the frames that `n` lines from the beam's do. -/
theorem Video.nextLines_frameCount {v : Video} {lines : Nat} (n : Nat) (h : v.line < lines) :
    (Video.nextLines lines n v).frameCount = v.frameCount + (v.line + n) / lines := by
  induction n generalizing v with
  | zero => rw [Nat.add_zero, Nat.div_eq_of_lt h]; rfl
  | succ n ih =>
    have hlines : 0 < lines := by omega
    have hline := Video.nextLine_line h
    have hsplit : v.line + (n + 1) = (v.line + 1) % lines + n + lines * ((v.line + 1) / lines) := by
      have := Nat.mod_add_div (v.line + 1) lines
      omega
    rw [Video.nextLines, ih (hline ▸ Nat.mod_lt _ hlines), hline, Video.nextLine_frameCount h, hsplit,
      Nat.add_mul_div_left _ _ hlines]
    omega

theorem Video.nextLines_undef (lines n : Nat) (v : Video) : (Video.nextLines lines n v).undef = v.undef := by
  induction n generalizing v with
  | zero => rfl
  | succ n ih =>
    rw [Video.nextLines, ih, Video.nextLine]
    split <;> rfl

/-- A tick of the beam completes the frames whose last line it leaves. -/
theorem State.tickVideo_frameCount {s : State} (c : Nat) (h : s.io.video.line < s.cfg.linesPerFrame) :
    (s.tickVideo c).io.video.frameCount = s.io.video.frameCount +
      (s.io.video.line + (s.io.video.dot + c) / s.cfg.cyclesPerLine) / s.cfg.linesPerFrame := by
  simp only [State.tickVideo, State.setVideo_io]
  split
  · exact Video.nextLines_frameCount _ h
  · exact Video.nextLines_frameCount (v := s.io.video.calling s.cfg .lineDone) _ h

/-- A tick reaches no undefined video behaviour where VIDEO_DEV leaves none (60_exceptions.md R607). -/
theorem State.tickVideo_undef {s : State} (c : Nat) (h : s.cfg.videoUndefined = []) :
    (s.tickVideo c).io.video.undef = s.io.video.undef := by
  simp only [State.tickVideo, State.setVideo_io, Video.nextLines_undef, s.io.video.calling_defined _ _ h, ite_self]

theorem State.tickDevices_undef {s : State} (h : s.cfg.videoUndefined = []) :
    s.tickDevices.io.video.undef = s.io.video.undef :=
  (State.tickVideo_undef (s := s.tickTimer s.stepCycles) s.stepCycles (by rwa [State.tickTimer_cfg])).trans (by rw [State.tickTimer_io])

/-- Frames by the beam are frames by the timer, while both keep the same time. -/
theorem frames_eq_div_frame (line dot c lines cycles : Nat) (h : 0 < cycles) :
    (line + (dot + c) / cycles) / lines = (line * cycles + dot + c) / (lines * cycles) := by
  rw [Nat.mul_comm lines, ← Nat.div_div_eq_div_mul, Nat.add_assoc, Nat.add_comm (line * cycles), Nat.add_mul_div_right _ _ h,
    Nat.add_comm line]

/-- While timer and beam keep the same time, the ticks complete as many frames as timer periods (60_exceptions.md R626). -/
theorem State.fits.tickDevices_frameCount {s : State} (h : s.fits) :
    s.tickDevices.io.video.frameCount =
      s.io.video.frameCount + (s.io.timer.count + s.stepCycles) / s.cfg.timerPeriod := by
  have htick := State.tickVideo_frameCount (s := s.tickTimer s.stepCycles) s.stepCycles (by simpa using h.line)
  simp only [State.tickTimer_io, State.tickTimer_cfg] at htick
  rw [h.together]
  exact htick.trans (congrArg _ (frames_eq_div_frame _ _ _ _ _ (Config.frame_pos h.configured).2))

/-- The ticks request the interrupt with the configured vector byte where the timer's period passes (60_exceptions.md R626). -/
theorem State.tickDevices_cpu (s : State) :
    s.tickDevices.cpu = if (s.io.timer.count + s.stepCycles) / s.cfg.timerPeriod = 0 then s.cpu
      else { s.cpu with intPending := true, intVec := s.cfg.intVector } := by
  show (s.tickTimer s.stepCycles).cpu = _
  simp only [State.tickTimer]
  split <;> rfl

theorem State.tickDevices_cfg (s : State) : s.tickDevices.cfg = s.cfg := by rw [State.tickDevices_frame]

theorem State.tickDevices_life (s : State) : s.tickDevices.life = s.life := by rw [State.tickDevices_frame]

theorem State.tickDevices_executed (s : State) : s.tickDevices.clock.executed = s.clock.executed + s.stepCycles := by
  rw [State.tickDevices_frame]

/-! ### Timer, beam and the executed count -/

/-- The devices not having advanced, the time is still the executed count. -/
theorem State.Beam.of_keepsTime {s u : State} (h : s.Beam) (htime : s.KeepsTime u) (hclock : u.clock = s.clock) : u.Beam where
  together := by rw [htime.timer, htime.line, htime.dot, htime.cfg, h.together]
  total := by rw [hclock, htime.frameCount, htime.timer, htime.cfg, h.total]

/-- The ticks advance timer, beam and executed count by the same cycles. -/
theorem State.Beam.tickDevices {s : State} (h : s.Beam) (hfits : s.fits) : s.tickDevices.Beam where
  together := hfits.tickDevices.together
  total := by
    obtain ⟨htimer, -⟩ := State.tickDevices_counters hfits.line
    rw [State.tickDevices_executed, hfits.tickDevices_frameCount, htimer, State.tickDevices_cfg, h.total, Nat.add_mul]
    have := Nat.div_add_mod' (s.io.timer.count + s.stepCycles) s.cfg.timerPeriod
    omega

/-- Settles O16: a CPU step does not advance the devices, and its ticks advance all three counts by its cycles; they request the
interrupt where the timer's period passes, which is where the beam's frame ends. -/
theorem stepKeepsBeam : Obligations.StepKeepsBeam := by
  unfold Obligations.StepKeepsBeam
  refine ⟨fun s t hinv hbeam hstep => ?beam, fun s hinv hbeam hpending => ?request⟩
  case beam =>
    obtain ⟨-, -, u, hu, rfl, -⟩ := step_next hstep
    exact (hbeam.of_keepsTime (cpuStep_keepsTime hu) (cpuStep_keeps hu).1).tickDevices (cpuStep_sound hinv hu).fits
  case request =>
    rw [hinv.fits.tickDevices_frameCount, State.tickDevices_cpu]
    split
    next hzero => simp [hzero, hpending]
    next hpos => simpa using hpos

/-! ### The machine step of a running machine -/

/-- A machine step of a running machine ends its CPU step with the ticks (60_exceptions.md R621). -/
theorem step_eq_finishStep {s u : State} (hlife : s.life = .running) (hwait : s.cfg.waitStates = 0) (hu : cpuStep s = .next u) :
    step s = u.finishStep := by
  unfold step
  rw [if_neg (not_not.2 hlife), if_neg (not_not.2 hwait), hu]

/-- A machine step is the CPU step, then the ticks, where VIDEO_DEV leaves no behaviour undefined (60_exceptions.md R621). -/
theorem step_of_cpuStep {s u : State} (hlife : s.life = .running) (hwait : s.cfg.waitStates = 0) (hu : cpuStep s = .next u)
    (hdef : s.videoDefined) : step s = .next u.tickDevices := by
  obtain ⟨hcalls, hundef⟩ := hdef
  have htime := cpuStep_keepsTime hu
  have hticks : u.tickDevices.io.video.undef = false := by
    rw [State.tickDevices_undef (by rw [htime.cfg, hcalls]), htime.undef hcalls, hundef]
  exact (step_eq_finishStep hlife hwait hu).trans (u.finishStep_defined hticks)

/-- Only a mode-0 acknowledge whose vector byte is no RST opcode stops a CPU step (60_exceptions.md R606, R607). -/
theorem exists_cpuStep {s : State} (h : isRst s.cpu.intVec = true) : ∃ u, cpuStep s = .next u := by
  unfold cpuStep
  split
  · exact ⟨_, rfl⟩
  · unfold State.acceptInt
    rw [if_pos h]
    split <;> exact ⟨_, rfl⟩
  · exact ⟨_, rfl⟩
  · obtain ⟨t, ht, -⟩ := exec_completesIn s.nextInstr (s.fetched s.nextInstr)
    exact ⟨t, ht⟩

/-- What keeps a machine running: the invariant, and nothing that a step is refused for (60_exceptions.md R607). -/
structure State.Unstopped (s : State) : Prop where
  inv : s.Inv
  life : s.life = .running
  vectors : s.rstVectors
  defined : s.cfg.videoUndefined = []

/-- Such a machine makes a step, and is such a machine after it. -/
theorem State.Unstopped.step {s : State} (h : s.Unstopped) : ∃ t, step s = .next t ∧ t.Unstopped := by
  obtain ⟨hvec, hconfigured⟩ := h.vectors
  obtain ⟨u, hu⟩ := exists_cpuStep hvec
  obtain ⟨-, -, -, -, -, hundef⟩ := IoDevices.ok_iff.1 h.inv.devices
  have hstep := step_of_cpuStep h.life (Config.waitStates_eq_zero h.inv.configured) hu ⟨h.defined, hundef⟩
  have hcfg : u.tickDevices.cfg = s.cfg := u.tickDevices_cfg.trans (cpuStep_keepsTime hu).cfg
  obtain ⟨-, hlife, hkept⟩ := cpuStep_keeps hu
  refine ⟨_, hstep, stepKeepsInvariant s _ h.inv hstep, ?life, ⟨?vector, ?configured⟩, ?defined⟩
  case life => rw [State.tickDevices_life, hlife, h.life]
  case vector =>
    rw [State.tickDevices_cpu, (cpuStep_keepsTime hu).cfg]
    split
    · rwa [hkept]
    · exact hconfigured
  case configured => rwa [hcfg]
  case defined => rw [hcfg, h.defined]

theorem core_run_succ {s t : State} (h : step s = .next t) (n : Nat) : Sys2Proof.core.run (n + 1) s = Sys2Proof.core.run n t := by
  have hcore : Sys2Proof.core.step s = .next t := h
  simp only [Host.Core.run, hcore]

/-- Settles O17: `State.Unstopped.step` at every step of the run. -/
theorem runsForEver : Obligations.RunsForEver := by
  unfold Obligations.RunsForEver
  intro s n hinv hlife hvectors hdefined
  have h : s.Unstopped := ⟨hinv, hlife, hvectors, hdefined⟩
  clear hinv hlife hvectors hdefined
  induction n generalizing s with
  | zero => exact ⟨s, rfl⟩
  | succ n ih =>
    obtain ⟨t, hstep, ht⟩ := h.step
    obtain ⟨u, hrun⟩ := ih t ht
    exact ⟨u, (core_run_succ hstep n).trans hrun⟩

end Machine

end Sys2Proof
end

section
/-! SUPPORT. The proofs of O5, O7, O8, O9 and O10: the machine step by its kind, and the acceptances as equations over the state
(60_exceptions.md R600 to R621). -/

namespace Sys2Proof.Machine

/-! ### The kinds of a step -/

section
variable {s : State}

theorem cpuStep_of_nmi (h : s.stepKind = .nmi) : cpuStep s = .next s.acceptNmi := by rw [cpuStep, h]

theorem cpuStep_of_int (h : s.stepKind = .int) : cpuStep s = s.acceptInt := by rw [cpuStep, h]

theorem cpuStep_of_idle (h : s.stepKind = .idle) : cpuStep s = .next s.haltedIdle := by rw [cpuStep, h]

theorem cpuStep_of_instruction (h : s.stepKind = .instruction) : cpuStep s = exec s.nextInstr (s.fetched s.nextInstr) := by
  rw [cpuStep, h]

theorem State.stepKind_eq_nmi_iff : s.stepKind = .nmi ↔ s.cpu.nmiPending = true ∧ s.cpu.prefixInhibit = false := by
  unfold State.stepKind
  split_ifs <;> simp_all

theorem State.stepKind_eq_int_iff :
    s.stepKind = .int ↔ ¬(s.cpu.nmiPending = true ∧ s.cpu.prefixInhibit = false) ∧
      s.cpu.intPending = true ∧ s.cpu.iff1 = true ∧ s.cpu.eiInhibit = false ∧ s.cpu.prefixInhibit = false := by
  unfold State.stepKind
  split_ifs <;> simp_all

theorem State.halted_of_idle (h : s.stepKind = .idle) : s.cpu.halted = true := by
  unfold State.stepKind at h
  split_ifs at h with _ _ hhalted
  exact hhalted

end

/-- A halted idle step is one refresh and 4 cycles (48_cpu_control.md R552). -/
theorem State.haltedIdle_eq (s : State) :
    s.haltedIdle = { s with
      cpu := { s.cpu with r := refreshBy s.cpu.r 1, eiInhibit := false, prefixInhibit := false }, stepCycles := 4 } := by
  rw [← refreshed_eq_refreshBy]
  rfl

/-- Settles O7: the conditions of the boundary, and the CPU step of each kind. -/
theorem boundaryChoice : Obligations.BoundaryChoice := by
  unfold Obligations.BoundaryChoice
  intro s
  rw [← State.haltedIdle_eq]
  exact ⟨State.stepKind_eq_nmi_iff, State.stepKind_eq_int_iff, State.halted_of_idle, State.halted_of_instruction, cpuStep_of_nmi,
    cpuStep_of_int, cpuStep_of_idle, cpuStep_of_instruction⟩

/-- Settles O5: the bytes at PC decode to the next instruction, which completes. -/
theorem stepRunsDecoded : Obligations.StepRunsDecoded := by
  unfold Obligations.StepRunsDecoded
  intro s i hlife hwait hkind hdecode
  obtain ⟨hnext, -⟩ := (decode_eq_ok_iff s.bytesAtPc i).1 hdecode
  obtain ⟨t, ht, -⟩ := exec_completesIn i (s.fetched i)
  have hcpu : cpuStep s = .next t := by
    rw [cpuStep_of_instruction hkind, State.nextInstr, hnext, ht]
  rw [step_eq_finishStep hlife hwait hcpu, ht]
  rfl

/-! ### Entering a handler -/

section
variable (s : State) (c : Cpu)

/-- A push under any registers stores two bytes and moves SP (00_scope.md R9). -/
theorem State.push_withCpu (w : Word) :
    ({ s with cpu := c } : State).push w =
      { State.writeAll [(c.sp - 1, hi w), (c.sp - 2, lo w)] s with cpu := { c with sp := c.sp - 2 } } := by
  have hwrites := State.writeAll_withCpu [(c.sp - 1, hi w), (c.sp - 2, lo w)] s c s.draws s.stepCycles
  rw [State.push_eq]
  refine (congrArg (fun u : State => ({ s with cpu := { c with sp := c.sp - 2 }, mem := u.mem, io := u.io } : State)) hwrites).trans ?_
  conv => rhs; rw [State.writeAll_state]

/-- Entering a handler under any registers: PC pushed, PC and WZ at the handler (60_exceptions.md R611, R612, R615). -/
theorem State.enterHandler_withCpu (target : Word) :
    ({ s with cpu := c } : State).enterHandler target =
      { State.writeAll [(c.sp - 1, hi c.pc), (c.sp - 2, lo c.pc)] s with
        cpu := { c with sp := c.sp - 2, pc := target, wz := target } } := by
  unfold State.enterHandler
  rw [State.push_withCpu]
  rfl

/-- The mode-2 entry under any registers: PC pushed, then the handler's address read at I:vector, low byte first
(60_exceptions.md R613). -/
theorem State.enterByTable_withCpu :
    let pushed := State.writeAll [(c.sp - 1, hi c.pc), (c.sp - 2, lo c.pc)] s
    let low := pushed.memRead (c.i ++ c.intVec)
    let high := low.2.memRead (c.i ++ c.intVec + 1)
    ({ s with cpu := c } : State).enterByTable =
      { pushed with
        cpu := { c with sp := c.sp - 2, pc := high.1 ++ low.1, wz := high.1 ++ low.1 }
        io := high.2.io
        draws := high.2.draws } := by
  intro pushed low high
  have hlow : ({ pushed with cpu := { c with sp := c.sp - 2 } } : State).memRead (c.i ++ c.intVec) =
      (low.1, { low.2 with cpu := { c with sp := c.sp - 2 }, stepCycles := pushed.stepCycles }) := pushed.memRead_withCpu ..
  have hhigh : ({ low.2 with cpu := { c with sp := c.sp - 2 }, stepCycles := pushed.stepCycles } : State).memRead
      (c.i ++ c.intVec + 1) = (high.1, { high.2 with cpu := { c with sp := c.sp - 2 }, stepCycles := pushed.stepCycles }) :=
    low.2.memRead_withCpu ..
  unfold State.enterByTable
  rw [State.push_withCpu]
  simp only []
  rw [State.memRead16_eq, joinBytes_eq, hlow, hhigh]
  rfl

end

/-- What a maskable acceptance does first (60_exceptions.md R610). -/
theorem State.beginInt_eq (s : State) :
    s.beginInt = { s with cpu := { s.cpu with
      intPending := false, iff1 := false, iff2 := false, halted := false, r := refreshBy s.cpu.r 1, eiInhibit := false
      prefixInhibit := false } } := by
  rw [← refreshed_eq_refreshBy]
  rfl

/-- Writes that come first in a step meet the devices as they stood. -/
theorem State.stores_of_writeAll {s t : State} {writes : List (Word × Byte)}
    (h : t = { State.writeAll writes s with cpu := t.cpu, draws := t.draws, stepCycles := t.stepCycles }) :
    s.Stores s.io writes t := State.stores_of_eq h

/-! ### The acceptances -/

/-- Settles O8: the push and the handler of an NMI. -/
theorem nmiAcceptance : Obligations.NmiAcceptance := by
  unfold Obligations.NmiAcceptance
  intro s hlife hwait hkind
  have hcpu := cpuStep_of_nmi hkind
  have haccept : s.acceptNmi = ({ s with cpu := { s.cpu with
      nmiPending := false, halted := false, iff1 := false, r := refreshBy s.cpu.r 1, eiInhibit := false
      prefixInhibit := false } }.enterHandler 0x0066).took 11 := by
    rw [← refreshed_eq_refreshBy]
    rfl
  rw [haccept, State.enterHandler_withCpu] at hcpu
  exact ⟨_, hcpu, step_of_cpuStep hlife hwait hcpu, rfl, rfl, State.stores_of_writeAll rfl⟩

/-- A vector byte is an RST opcode where it has the form `11 ttt 111` (60_exceptions.md R611). -/
theorem isRst_iff : ∀ v : Byte, isRst v = true ↔ ∃ k : BitVec 3, v = 0b11#2 ++ k ++ 0b111#3 := by decide +kernel

/-- The target of an RST opcode (60_exceptions.md R611; 46_control.md R475). -/
theorem rstTarget_toNat : ∀ v : Byte, (zext16 (v &&& 0x38)).toNat = 8 * (v.toNat / 8 % 8) := by decide +kernel

/-- Settles O9: both modes enter a handler, at their own target. -/
theorem maskableAcceptance : Obligations.MaskableAcceptance := by
  unfold Obligations.MaskableAcceptance
  intro s hlife hwait hkind hmode
  have hcpu : ∃ target : Word, cpuStep s = .next ((s.beginInt.enterHandler target).took 13) ∧
      (s.cpu.im = .im1 → target = 0x0038) ∧ (s.cpu.im = .im0 → target.toNat = 8 * (s.cpu.intVec.toNat / 8 % 8)) := by
    rw [cpuStep_of_int hkind]
    unfold State.acceptInt
    rcases hmode with him | ⟨him, hrst⟩
    · rw [him]
      exact ⟨_, rfl, fun _ => rfl, nofun⟩
    · rw [him, if_pos ((isRst_iff _).2 hrst)]
      exact ⟨_, rfl, nofun, fun _ => rstTarget_toNat _⟩
  obtain ⟨target, hcpu, hone, hzero⟩ := hcpu
  rw [State.beginInt_eq, State.enterHandler_withCpu] at hcpu
  exact ⟨_, target, hcpu, step_of_cpuStep hlife hwait hcpu, rfl, hone, hzero, rfl, State.stores_of_writeAll rfl⟩

/-- Settles O10: by `State.enterByTable_withCpu` the table is read after the push. -/
theorem vectoredAcceptance : Obligations.VectoredAcceptance := by
  unfold Obligations.VectoredAcceptance
  intro s hlife hwait hkind him pushed low high
  have hcpu : cpuStep s = .next (s.beginInt.enterByTable.took 19) := by
    rw [cpuStep_of_int hkind, State.acceptInt, him]
  rw [State.beginInt_eq, State.enterByTable_withCpu] at hcpu
  exact ⟨_, hcpu, step_of_cpuStep hlife hwait hcpu, rfl, rfl, State.stores_of_writeAll rfl, State.keepsAll_of_eq rfl⟩

end Sys2Proof.Machine
end

section
/-! SUPPORT. The proof of O11: what the check of a configuration refuses of a region table, and the calls that a lifecycle refuses
(20_memory.md R63; 60_exceptions.md R607, R650, R654). -/

namespace Sys2Proof

/-! ### Broken configurations -/

/-- A covering table is not broken: no address is left out or in two regions, and every region has a length, ends within the space
and starts after those before it (20_memory.md R63). -/
theorem not_tableBroken_of_regionsCover {table : List Region} {stop : Nat} (h : regionsCover table 0 stop = true) :
    ¬Machine.tableBroken table stop := by
  obtain ⟨-, hbounds⟩ := regionsCover_bounds h
  have hapart {a j k : Nat} {g g' : Region} (hj : table[j]? = some g) (hk : table[k]? = some g') (hjk : j < k)
      (hg : Machine.inRegion g a) (hg' : Machine.inRegion g' a) : False := by
    have horder := regionsCover_order h hj hk hjk
    unfold Machine.inRegion at hg hg'
    omega
  rintro (⟨a, ha, hout⟩ | ⟨a, j, k, g, g', hj, hk, hne, hg, hg'⟩ | ⟨g, hg, hbad⟩ | ⟨j, k, g, g', hj, hk, hjk, hstart⟩)
  case inl =>
    obtain ⟨g, hg, hin⟩ := regionsCover_covers h (Nat.zero_le a) ha
    exact hout g hg hin
  case inr.inl =>
    rcases Nat.lt_or_gt_of_ne hne with hjk | hkj
    · exact hapart hj hk hjk hg hg'
    · exact hapart hk hj hkj hg' hg
  case inr.inr.inl =>
    obtain ⟨k, hk⟩ := List.mem_iff_getElem?.1 hg
    have := hbounds k g hk
    omega
  case inr.inr.inr =>
    have horder := regionsCover_order h hj hk hjk
    have := hbounds j g hj
    omega

/-- The offset and length of a ROM backing, as `Config.romParts` takes them. -/
def romPart (part : Backing × Nat) : Option (Nat × Nat) :=
  match part.1 with
  | .rom off => some (off, part.2)
  | _ => none

/-- What a backing counts in `romTotal`: its length if it is ROM. -/
def romLength (part : Backing × Nat) : Nat :=
  match part.1 with
  | .rom _ => part.2
  | .ram _ | .io _ | .unmapped => 0

/-- The ROM parts of a list of backings are as long as its ROM backings. -/
theorem sum_romPart (parts : List (Backing × Nat)) :
    ((parts.filterMap romPart).map (fun part => part.2)).sum = (parts.map romLength).sum := by
  induction parts with
  | nil => rfl
  | cons part rest ih =>
    obtain ⟨bk, length⟩ := part
    cases bk with
    | rom off => exact congrArg (length + ·) ih
    | ram _ | io _ | unmapped => exact ih.trans (Nat.zero_add _).symm

theorem Config.romParts_total (cfg : Config) : (cfg.romParts.map (fun part => part.2)).sum = Machine.romTotal cfg :=
  sum_romPart cfg.backings

/-- What an accepted configuration has none of (20_memory.md R63; 60_exceptions.md R650). -/
theorem Config.accepted_not_broken {cfg : Config} (h : cfg.check = none) :
    ¬(Machine.tableBroken cfg.memMap 0x10000 ∨ Machine.tableBroken cfg.ioMap (cfg.ioDecodeMask.toNat + 1) ∨
      cfg.rom.size ≠ Machine.romTotal cfg ∨ cfg.waitStates ≠ 0) := by
  obtain ⟨hmem, hio, hrom, -, -, -⟩ := Config.check_eq_none.1 h
  simp only [Config.memMapOk, Config.ioMapOk, Config.romOk, Bool.and_eq_true, beq_iff_eq, Config.romParts_total] at hmem hio hrom
  obtain ⟨hmemCover, -⟩ := hmem
  obtain ⟨hioCover, -⟩ := hio
  obtain ⟨⟨hsize, -⟩, -⟩ := hrom
  rintro (hbroken | hbroken | hother | hwait)
  · exact not_tableBroken_of_regionsCover hmemCover hbroken
  · exact not_tableBroken_of_regionsCover hioCover hbroken
  · exact hother hsize
  · exact hwait (Config.waitStates_eq_zero h)

namespace Machine

/-! ### The calls -/

theorem initMachine_refused {s : State} {cfg : Config} (dr : ResetDraws) {e : ConfigError} (hlife : s.life ≠ .discarded)
    (hcheck : cfg.check = some e) : initMachine s cfg dr = .fault (.configError e) := by
  unfold initMachine
  rw [if_neg hlife, hcheck]

/-- Every call but init is refused outside Running (60_exceptions.md R654). -/
theorem calls_refused_of_not_running {s : State} (h : s.life ≠ .running) (us code : Nat) (rec : Snapshot) :
    execFor s us = .refused .callNotAdmitted ∧ keyDown s code = .refused .callNotAdmitted ∧
    keyUp s code = .refused .callNotAdmitted ∧ displayInfo s = .refused .callNotAdmitted ∧
    saveSnapshot s = .refused .callNotAdmitted ∧ loadSnapshot s rec = .refused .callNotAdmitted ∧
    discard s = .refused .callNotAdmitted :=
  ⟨if_neg h, if_neg h, if_neg h, if_pos h, if_neg h, if_pos h, if_neg h⟩

/-- Settles O11, clause by clause. -/
theorem stopsByName : Obligations.StopsByName := by
  unfold Obligations.StopsByName
  refine ⟨fun s h => if_pos h, fun s hlife hwait => ?wait, fun s hlife hwait hkind him hvec => ?vector,
    fun s t hlife hwait hcpu hundef => ?video, fun s cfg dr e hlife hcheck => initMachine_refused dr hlife hcheck,
    fun s cfg dr hlife hbroken => ?config, fun s cfg dr hlife => if_pos hlife,
    fun s us code rec h => calls_refused_of_not_running h us code rec, fun s hlife hgeometry => ?geometry⟩
  case wait =>
    unfold step
    rw [if_neg (not_not.2 hlife), if_pos hwait]
  case vector =>
    have hrst : ¬isRst s.cpu.intVec = true := fun h => by
      obtain ⟨k, hk⟩ := (isRst_iff _).1 h
      exact hvec k hk
    have hcpu : cpuStep s = .refused (.modeZeroVector s.cpu.intVec) := by
      rw [cpuStep_of_int hkind, State.acceptInt, him]
      exact if_neg hrst
    unfold step
    rw [if_neg (not_not.2 hlife), if_neg (not_not.2 hwait), hcpu]
  case video =>
    rw [step_eq_finishStep hlife hwait hcpu]
    exact t.finishStep_undef hundef
  case config =>
    cases hcheck : cfg.check with
    | some e => exact ⟨e, initMachine_refused dr hlife hcheck⟩
    | none => exact absurd hbroken (Config.accepted_not_broken hcheck)
  case geometry =>
    unfold displayInfo
    rw [if_neg (not_not.2 hlife), if_pos (List.contains_iff_mem.2 hgeometry)]

end Machine

end Sys2Proof
end

section
/-! SUPPORT. The proof of O12. Each loop is followed by an invariant: what the closed form gives from the counters as a round finds
them is what it gives from the counters as the round leaves them (60_exceptions.md R626, R642). -/

namespace Sys2Proof.Machine

/-! ### The timer -/

/-- The loop is over: the count is below the period. -/
theorem State.tickTimer_zero_of_lt {s : State} (h : s.io.timer.count < s.cfg.timerPeriod) : s.tickTimer 0 = s := by
  simp [State.tickTimer, State.setTimer, Nat.div_eq_of_lt h, Nat.mod_eq_of_lt h]

/-- A round of the loop: a period less, and a request, which is one with those of the rounds after it (60_exceptions.md R617). -/
theorem State.tickTimer_zero_round {s : State} (hpos : 0 < s.cfg.timerPeriod) (h : s.cfg.timerPeriod ≤ s.io.timer.count) :
    ((s.setTimer ⟨s.io.timer.count - s.cfg.timerPeriod⟩).requestInterrupt s.cfg.intVector).tickTimer 0 = s.tickTimer 0 := by
  have hmod := (Nat.mod_eq_sub_mod h).symm
  have hdiv : s.io.timer.count / s.cfg.timerPeriod ≠ 0 := (Nat.div_pos h hpos).ne'
  simp only [State.tickTimer, State.setTimer, State.requestInterrupt, Nat.add_zero, hmod, hdiv, if_false]
  split <;> rfl

theorem State.timerLoop_eq_tickTimer (n : Nat) {s : State} (hpos : 0 < s.cfg.timerPeriod) (hn : s.io.timer.count ≤ n) :
    State.timerLoop n s = s.tickTimer 0 := by
  induction n generalizing s with
  | zero => exact (State.tickTimer_zero_of_lt (Nat.lt_of_le_of_lt hn hpos)).symm
  | succ n ih =>
    unfold State.timerLoop
    split
    next hle =>
      have hless : s.io.timer.count - s.cfg.timerPeriod ≤ n := by omega
      exact (ih (s := (s.setTimer ⟨s.io.timer.count - s.cfg.timerPeriod⟩).requestInterrupt s.cfg.intVector) hpos hless).trans
        (State.tickTimer_zero_round hpos hle)
    next hlt => exact (State.tickTimer_zero_of_lt (Nat.lt_of_not_le hlt)).symm

/-! ### The beam -/

theorem Video.calling_calling (v : Video) (cfg : Config) (call : VideoCall) :
    (v.calling cfg call).calling cfg call = v.calling cfg call := by
  simp [Video.calling]

theorem Video.nextLine_calling (v : Video) (cfg : Config) (call : VideoCall) (lines : Nat) :
    (v.calling cfg call).nextLine lines = (v.nextLine lines).calling cfg call := by
  by_cases h : v.line + 1 = lines <;> simp [Video.nextLine, Video.calling, h]

/-- A scanline does not look at the dot. -/
theorem Video.nextLine_withDot (v : Video) (d lines : Nat) :
    ({ v with dot := d } : Video).nextLine lines = { v.nextLine lines with dot := d } := by
  simp only [Video.nextLine]
  split <;> rfl

theorem Video.nextLines_withDot (v : Video) (d lines n : Nat) :
    Video.nextLines lines n { v with dot := d } = { Video.nextLines lines n v with dot := d } := by
  induction n generalizing v with
  | zero => rfl
  | succ n ih => rw [Video.nextLines, Video.nextLine_withDot, ih, Video.nextLines]

/-- The beam moved on to the dot count `dot`, which may be past the end of the line (60_exceptions.md R642). -/
def Video.advance (v : Video) (cfg : Config) (dot : Nat) : Video :=
  { Video.nextLines cfg.linesPerFrame (dot / cfg.cyclesPerLine)
      (if dot / cfg.cyclesPerLine = 0 then v else v.calling cfg .lineDone) with
    dot := dot % cfg.cyclesPerLine }

theorem State.tickVideo_eq (s : State) (c : Nat) :
    s.tickVideo c = s.setVideo (s.io.video.advance s.cfg (s.io.video.dot + c)) := rfl

section
variable {cfg : Config} (v : Video) {dot : Nat}

theorem Video.advance_withDot (d : Nat) : ({ v with dot := d } : Video).advance cfg dot = v.advance cfg dot := by
  have hcalling : ({ v with dot := d } : Video).calling cfg .lineDone = { v.calling cfg .lineDone with dot := d } := rfl
  unfold Video.advance
  rw [hcalling]
  split <;> rw [Video.nextLines_withDot]

/-- The loop is over: the dot is within the line. -/
theorem Video.advance_of_lt (h : dot < cfg.cyclesPerLine) : v.advance cfg dot = { v with dot := dot } := by
  simp [Video.advance, Video.nextLines, Nat.div_eq_of_lt h, Nat.mod_eq_of_lt h]

/-- A round of the loop: a line of cycles less, and one scanline, whose call of VIDEO_DEV is one with those of the rounds after it. -/
theorem Video.advance_round (hpos : 0 < cfg.cyclesPerLine) (h : cfg.cyclesPerLine ≤ dot) :
    ((v.calling cfg .lineDone).nextLine cfg.linesPerFrame).advance cfg (dot - cfg.cyclesPerLine) = v.advance cfg dot := by
  unfold Video.advance
  rw [← Nat.mod_eq_sub_mod h, Nat.div_eq_sub_div hpos h, if_neg (Nat.succ_ne_zero _), Video.nextLines, Video.nextLine_calling,
    Video.calling_calling, ite_self]

end

/-- A round is one scanline, with a line of cycles less. -/
theorem State.videoRound_eq (s : State) :
    s.videoRound = s.setVideo { (s.io.video.calling s.cfg .lineDone).nextLine s.cfg.linesPerFrame with
      dot := s.io.video.dot - s.cfg.cyclesPerLine } := by
  simp only [State.videoRound, Video.nextLine]
  split <;> rfl

theorem State.videoLoop_eq_advance (n : Nat) {s : State} (hpos : 0 < s.cfg.cyclesPerLine) (hn : s.io.video.dot ≤ n) :
    State.videoLoop n s = s.setVideo (s.io.video.advance s.cfg s.io.video.dot) := by
  induction n generalizing s with
  | zero => rw [Video.advance_of_lt _ (Nat.lt_of_le_of_lt hn hpos)]; rfl
  | succ n ih =>
    unfold State.videoLoop
    split
    next hle =>
      have hless : s.io.video.dot - s.cfg.cyclesPerLine ≤ n := by omega
      rw [State.videoRound_eq, ← s.io.video.advance_round hpos hle]
      refine (ih (s := s.setVideo { (s.io.video.calling s.cfg .lineDone).nextLine s.cfg.linesPerFrame with
        dot := s.io.video.dot - s.cfg.cyclesPerLine }) hpos hless).trans ?_
      exact congrArg s.setVideo (Video.advance_withDot ..)
    next hlt => rw [Video.advance_of_lt _ (Nat.lt_of_not_le hlt)]; rfl

/-- Settles O12: both loops run from the counter with the cycles added. -/
theorem deviceLoops : Obligations.DeviceLoops := by
  unfold Obligations.DeviceLoops
  refine ⟨fun s c n hpos hn => ?timer, fun s c n hpos hn => ?beam⟩
  case timer => exact (State.timerLoop_eq_tickTimer n (s := s.setTimer ⟨s.io.timer.count + c⟩) hpos hn).symm
  case beam =>
    refine .trans ?_ (State.videoLoop_eq_advance n (s := s.setVideo { s.io.video with dot := s.io.video.dot + c }) hpos hn).symm
    rw [State.tickVideo_eq]
    exact congrArg s.setVideo (Video.advance_withDot ..).symm

end Sys2Proof.Machine
end

section
/-! SUPPORT. The proof of O18: what one step adds to the executed count, and from that what the loop of exec leaves
(60_exceptions.md R651, R652). -/

namespace Sys2Proof.Machine

/-- A CPU step takes 4 to 23 cycles (60_exceptions.md R606, 70_reset_and_hazards.md R720). -/
theorem cpuStep_cycles {s u : State} (h : cpuStep s = .next u) : 4 ≤ u.stepCycles ∧ u.stepCycles ≤ 23 := by
  rcases cpuStep_next h with ⟨-, rfl⟩ | ⟨-, hint⟩ | ⟨-, rfl⟩ | ⟨-, hexec⟩
  · exact (by decide : 4 ≤ 11 ∧ 11 ≤ 23)
  · rcases State.acceptInt_next hint with ⟨target, rfl⟩ | rfl
    · exact (by decide : 4 ≤ 13 ∧ 13 ≤ 23)
    · exact (by decide : 4 ≤ 19 ∧ 19 ≤ 23)
  · exact (by decide : 4 ≤ 4 ∧ 4 ≤ 23)
  · obtain ⟨t, ht, -, hbounds⟩ := cyclesFollowTable s.nextInstr (s.fetched s.nextInstr)
    obtain rfl : u = t := Host.Outcome.next.inj (hexec.symm.trans ht)
    exact hbounds

/-- A machine step adds its cycles to the executed count, and leaves the elapsed time and the configuration (60_exceptions.md
R621). -/
theorem step_executed {s t : State} (h : step s = .next t) :
    t.cfg = s.cfg ∧ t.clock.elapsedUs = s.clock.elapsedUs ∧
      s.clock.executed < t.clock.executed ∧ t.clock.executed ≤ s.clock.executed + 23 := by
  obtain ⟨-, -, u, hu, rfl, -⟩ := step_next h
  obtain ⟨hclock, -, -⟩ := cpuStep_keeps hu
  have hcycles := cpuStep_cycles hu
  rw [State.tickDevices_cfg, State.tickDevices_executed, State.tickDevices_frame, hclock]
  exact ⟨(cpuStep_keepsTime hu).cfg, rfl, by omega, by omega⟩

/-- The loop of exec ends at the target, or past it by less than a step, where it begins no further past it and has a step for every
cycle to go. -/
theorem runTo_executed {target fuel : Nat} {s t : State} (hfuel : target - s.clock.executed ≤ fuel)
    (hstart : s.clock.executed < target + 23) (h : runTo target fuel s = .next t) :
    t.cfg = s.cfg ∧ t.clock.elapsedUs = s.clock.elapsedUs ∧ s.clock.executed ≤ t.clock.executed ∧
      target ≤ t.clock.executed ∧ t.clock.executed < target + 23 := by
  induction fuel generalizing s with
  | zero =>
    obtain rfl : s = t := Host.Outcome.next.inj h
    exact ⟨rfl, rfl, le_rfl, by omega, hstart⟩
  | succ fuel ih =>
    unfold runTo at h
    split at h
    next hbelow =>
      split at h
      next u hstep =>
        obtain ⟨hcfg, helapsed, hmore, hmost⟩ := step_executed hstep
        obtain ⟨hcfg', helapsed', hmore', hreached⟩ := ih (by omega) (by omega) h
        exact ⟨hcfg'.trans hcfg, helapsed'.trans helapsed, by omega, hreached⟩
      · cases h
      · cases h
    next hreached =>
      obtain rfl : s = t := Host.Outcome.next.inj h
      exact ⟨rfl, rfl, le_rfl, by omega, hstart⟩

/-- The machine with more time elapsed (60_exceptions.md R651). -/
def State.elapse (s : State) (us : Nat) : State :=
  { s with clock := { s.clock with elapsedUs := s.clock.elapsedUs + us } }

theorem State.target_le_elapse (s : State) (us : Nat) : s.target ≤ (s.elapse us).target :=
  Nat.div_le_div_right (Nat.mul_le_mul_right _ (Nat.le_add_right ..))

/-- exec runs its loop to the target of the time elapsed with its own, and answers the cycles that the loop executed. -/
theorem execFor_next {s t : State} {us n : Nat} (h : execFor s us = .next (n, t)) :
    runTo (s.elapse us).target ((s.elapse us).target - s.clock.executed) (s.elapse us) = .next t ∧
      t.clock.executed - s.clock.executed = n := by
  unfold execFor at h
  split at h
  · simp only [] at h
    split at h
    next v hv =>
      cases h
      exact ⟨hv, rfl⟩
    · cases h
    · cases h
  · cases h

/-- Settles O18: the elapsed time moves the target up, and the loop ends at it. -/
theorem execAccounting : Obligations.ExecAccounting := by
  unfold Obligations.ExecAccounting
  intro s t us n hstart h
  obtain ⟨hloop, hn⟩ := execFor_next h
  have hbelow : (s.elapse us).clock.executed < (s.elapse us).target + 23 :=
    hstart.trans_le (Nat.add_le_add_right (s.target_le_elapse us) 23)
  obtain ⟨hcfg, helapsed, hmore, hreached, hless⟩ := runTo_executed le_rfl hbelow hloop
  have htarget : t.target = (s.elapse us).target := by unfold State.target; rw [hcfg, helapsed]
  rw [htarget]
  exact ⟨helapsed, rfl, hreached, hless, hn ▸ Nat.add_sub_cancel' hmore⟩

end Sys2Proof.Machine
end

section
/-! SUPPORT. The proof of O23: a key event as an update of one matrix row, and the port read that sees the row (60_exceptions.md R630,
R632, R633; 20_memory.md R77). -/

namespace Sys2Proof.Machine

/-- A key event of a code with a place (60_exceptions.md R632). -/
theorem keyEvent_of_place {s : State} {code : Nat} {pos : KeyPos} (hlife : s.life = .running) (hpos : keyPosOf s.cfg code = some pos)
    (down : Bool) : keyEvent s code down = .next (s.setKbd (s.io.kbd.hold pos down)) := by
  unfold keyEvent
  rw [if_pos hlife, hpos]

section
variable {k : Keyboard} {pos : KeyPos} (hclear : k.matrix[pos.row]? = some 0)
include hclear

/-- A key held down in a row without another: its bit alone. -/
theorem Keyboard.hold_down_row : (k.hold pos true).matrix.getD pos.row 0 = 1#8 <<< pos.col := by
  obtain ⟨hrow, -⟩ := List.getElem?_eq_some_iff.1 hclear
  simp [Keyboard.hold, List.getD_eq_getElem?_getD, hclear, List.getElem?_set_self hrow]

/-- Releasing the key leaves the keyboard as it was. -/
theorem Keyboard.hold_down_up : (k.hold pos true).hold pos false = k := by
  obtain ⟨hrow, hval⟩ := List.getElem?_eq_some_iff.1 hclear
  have hsame : k.matrix.set pos.row 0 = k.matrix := by rw [← hval, List.set_getElem_self]
  rw [Keyboard.hold, Keyboard.hold_down_row hclear]
  refine .trans ?_ (congrArg (Keyboard.mk · k.selRow) hsame)
  simp [Keyboard.hold]

end

/-- A port of the keyboard's row under the default map, whatever the high byte of the address is (20_memory.md R74, R77). -/
theorem State.ioTarget_kbd {s : State} (hcfg : s.cfg = { Config.default with keymap := s.cfg.keymap }) {row : Nat} (hrow : row < 8)
    (a : Byte) : s.ioTarget (a ++ BitVec.ofNat 8 (0x80 + row)) = .device (.kbd row) := by
  have hport : ((a ++ BitVec.ofNat 8 (0x80 + row) : Word) &&& Config.default.ioDecodeMask).toNat = 0x80 + row := by
    rw [and_ioDecodeMask_default, ← joinBytes_eq, joinBytes_toNat, BitVec.toNat_ofNat]
    omega
  unfold State.ioTarget
  rw [hcfg]
  refine (congrArg (regionTarget Config.defaultIoMap) hport).trans ?_
  rw [regionTarget_defaultIoMap, if_pos (by omega), Nat.add_sub_cancel_left]

/-- IN A,(0x80 + row) reads the row's columns (60_exceptions.md R630, R633). -/
theorem exec_inAN_kbd {s : State} (hcfg : s.cfg = { Config.default with keymap := s.cfg.keymap }) {row : Nat} (hrow : row < 8) :
    ∃ t : State, exec (.inAN (BitVec.ofNat 8 (0x80 + row))) s = .next t ∧ t.a = s.io.kbd.columns row := by
  obtain ⟨t, ht, -, hreg, -⟩ := inputs (.inAN (BitVec.ofNat 8 (0x80 + row))) _ _ _ _ _ s rfl
  have ha : t.a = (s.ioRead (s.a ++ BitVec.ofNat 8 (0x80 + row))).1 := (hreg .a).trans (if_pos rfl)
  rw [State.ioRead_of_target (State.ioTarget_kbd hcfg hrow s.a)] at ha
  exact ⟨t, ht, ha⟩

theorem getLsbD_one_shiftLeft {j col : Nat} (hcol : col < 8) : (1#8 <<< col).getLsbD j = decide (j = col) :=
  (BitVec.getLsbD_twoPow (w := 8) col j).trans (by simp [hcol, eq_comm])

/-- Settles O23: the row holds the key's bit alone after key_down, and is clear again after key_up. -/
theorem keyboardReads : Obligations.KeyboardReads := by
  unfold Obligations.KeyboardReads
  intro s code k hcfg hlife hkey hrow hcol hmatrix
  have hclear : s.io.kbd.matrix[k.row]? = some 0 := by rw [hmatrix, List.getElem?_replicate, if_pos hrow]
  have hup := Keyboard.hold_down_up hclear
  refine ⟨_, _, keyEvent_of_place hlife hkey true,
    keyEvent_of_place (s := s.setKbd (s.io.kbd.hold k true)) hlife hkey false, hup, ?down, ?up⟩
  case down =>
    obtain ⟨t, ht, ha⟩ := exec_inAN_kbd (s := s.setKbd (s.io.kbd.hold k true)) hcfg hrow
    refine ⟨t, ht, fun j hj => ?_⟩
    rw [ha, Keyboard.columns_getLsbD _ _ hj, State.setKbd_io, Keyboard.hold_down_row hclear, getLsbD_one_shiftLeft hcol]
  case up =>
    obtain ⟨t, ht, ha⟩ := exec_inAN_kbd
      (s := (s.setKbd (s.io.kbd.hold k true)).setKbd ((s.io.kbd.hold k true).hold k false)) hcfg hrow
    refine ⟨t, ht, ha.trans ?_⟩
    rw [State.setKbd_io, hup, Keyboard.columns, List.getD_eq_getElem?_getD, hclear]
    rfl

end Sys2Proof.Machine
end

section
/-! SUPPORT. The proofs of O14 and O19: the state after reset, and the state that a record restores, fit the configuration
(10_state.md R39 to R44; 60_exceptions.md R650, R656, R657). -/

namespace Sys2Proof

theorem Config.kbdRows_pos {cfg : Config} (h : cfg.check = none) : 0 < cfg.kbdRows := by
  obtain ⟨-, -, -, -, -, hp⟩ := Config.check_eq_none.1 h
  simp only [Config.paramsOk, Bool.and_eq_true, decide_eq_true_eq] at hp
  omega

theorem Config.default_accepted : Config.default.check = none := by decide +kernel

namespace Machine

/-! ### The reset -/

/-- Every bank's first backing is one that it has (20_memory.md R68). -/
theorem bankSelOk_replicate {banks : List Bank} (h : ∀ bank ∈ banks, 0 < bank.backings.length) :
    bankSelOk banks (List.replicate banks.length 0) = true := by
  induction banks with
  | nil => rfl
  | cons bank banks ih =>
    simp only [List.length_cons, List.replicate_succ, bankSelOk, Bool.and_eq_true, decide_eq_true_eq]
    exact ⟨h bank List.mem_cons_self, ih fun b hb => h b (List.mem_cons_of_mem bank hb)⟩

theorem Keyboard.reset_ok {cfg : Config} (h : cfg.check = none) : (IoDevices.reset cfg).kbd.ok cfg = true := by
  simp [Keyboard.ok_iff, IoDevices.reset, Config.kbdRows_pos h]

/-- The devices after reset: every counter at 0, below its bound (60_exceptions.md R627, R631, R642, R647). -/
theorem IoDevices.reset_ok {cfg : Config} (h : cfg.check = none) : (IoDevices.reset cfg).ok cfg = true := by
  obtain ⟨hlines, hcycles⟩ := Config.frame_pos h
  exact IoDevices.ok_iff.2 ⟨Keyboard.reset_ok h, Nat.mul_pos hlines hcycles, hlines, hcycles, List.length_replicate, rfl⟩

theorem IoDevices.reset_together (cfg : Config) : (IoDevices.reset cfg).together cfg = true :=
  IoDevices.together_iff.2 (by simp [IoDevices.reset])

section
variable {cfg : Config} {dr : ResetDraws}

/-- The state after reset in an accepted configuration has the invariant, whatever the count of draws is. -/
theorem State.initial_inv (hcheck : cfg.check = none) (hram : ramStoreOk cfg dr.ram = true) (draws : Nat) :
    ({ State.initial cfg dr with draws := draws } : State).Inv where
  configured := hcheck
  memory := MemState.ok_iff.2 ⟨hram, bankSelOk_replicate fun _ hb => (Config.bank_backings hcheck hb).1⟩
  devices := IoDevices.reset_ok hcheck
  together := IoDevices.reset_together cfg
  cycles := Nat.zero_le 23
  enables := nofun
  inhibits := nofun
  idle := nofun

theorem State.initial_beam (cfg : Config) (dr : ResetDraws) (draws : Nat) :
    ({ State.initial cfg dr with draws := draws } : State).Beam where
  together := by simp [State.initial, IoDevices.reset]
  total := by simp [State.initial, IoDevices.reset]

/-- init answers the state after reset, in a configuration that it accepts (60_exceptions.md R650). -/
theorem initMachine_next {s t : State} (h : initMachine s cfg dr = .next t) :
    cfg.check = none ∧ t = { State.initial cfg dr with draws := s.draws } := by
  unfold initMachine at h
  split at h
  · cases h
  · split at h
    · cases h
    · exact ⟨‹_›, (Host.Outcome.next.inj h).symm⟩

end

/-- Settles O14: the state after reset has both invariants, and init answers it. -/
theorem resetInvariant : Obligations.ResetInvariant := by
  unfold Obligations.ResetInvariant
  refine ⟨State.initial_inv (dr := .zero) Config.default_accepted rfl 0, State.initial_beam .default .zero 0, ⟨rfl, rfl⟩,
    fun cfg dr hcheck hram => ⟨State.initial_inv hcheck hram 0, State.initial_beam cfg dr 0⟩, fun s t cfg dr hinit hram => ?_⟩
  obtain ⟨hcheck, rfl⟩ := initMachine_next hinit
  exact ⟨State.initial_inv hcheck hram s.draws, State.initial_beam cfg dr s.draws⟩

/-! ### Snapshots -/

/-- What the machine holds is a body of its configuration exactly where CPU, memory and devices are as the invariant says. -/
theorem SnapshotBody.ok_iff {cfg : Config} {b : SnapshotBody} :
    b.ok cfg = true ↔ b.cpu.ok = true ∧ b.mem.ok cfg = true ∧ b.io.ok cfg = true ∧ b.io.together cfg = true := by
  simp [SnapshotBody.ok, and_assoc]

theorem State.Inv.body_ok {s : State} (h : s.Inv) : s.snapshotBody.ok s.cfg = true :=
  SnapshotBody.ok_iff.2 ⟨h.cpu_ok, h.memory, h.devices, h.together⟩

/-- A machine with the invariant keeps it under a body of its configuration. -/
theorem State.Inv.restore {s : State} (h : s.Inv) {b : SnapshotBody} (hb : b.ok s.cfg = true) :
    ({ s with cpu := b.cpu, mem := b.mem, io := b.io } : State).Inv := by
  obtain ⟨hcpu, hmem, hio, htogether⟩ := SnapshotBody.ok_iff.1 hb
  obtain ⟨henables, hinhibits, hidle⟩ := Cpu.ok_iff.1 hcpu
  exact {
    configured := h.configured
    memory := hmem
    devices := hio
    together := htogether
    cycles := h.cycles
    enables := henables
    inhibits := hinhibits
    idle := hidle }

theorem Snapshot.saved_iff {cfg : Config} {rec : Snapshot} :
    rec.saved cfg = true ↔ rec.origin = some (cfg, rec.body) ∧ rec.body.ok cfg = true := by
  simp [Snapshot.saved]

/-- A load by a running machine: of another header false, of a record that a save produced the state with its body, of any other a
refusal (60_exceptions.md R657). -/
theorem loadSnapshot_running {s : State} (hlife : s.life = .running) (rec : Snapshot) :
    (rec.version ≠ Config.snapshotVersion ∨ rec.size ≠ Config.snapshotSize → loadSnapshot s rec = .next (false, s)) ∧
    (rec.version = Config.snapshotVersion → rec.size = Config.snapshotSize → loadSnapshot s rec =
      if rec.saved s.cfg then .next (true, { s with cpu := rec.body.cpu, mem := rec.body.mem, io := rec.body.io })
      else .refused .snapshotNotSaved) := by
  unfold loadSnapshot
  rw [if_neg (not_not.2 hlife)]
  exact ⟨fun h => if_pos h, fun hversion hsize => if_neg (by simp [hversion, hsize])⟩

/-- A load that is answered true took a record that a save of a machine of this configuration produced. -/
theorem loadSnapshot_true {s t : State} {rec : Snapshot} (h : loadSnapshot s rec = .next (true, t)) :
    rec.saved s.cfg = true ∧ t = { s with cpu := rec.body.cpu, mem := rec.body.mem, io := rec.body.io } := by
  unfold loadSnapshot at h
  split_ifs at h with hlife hheader hsaved
  · cases h
  · cases h; exact ⟨hsaved, rfl⟩

/-- Settles O19: a save's record is one that a load takes, and a load keeps the invariant. -/
theorem snapshotRestores : Obligations.SnapshotRestores := by
  unfold Obligations.SnapshotRestores
  refine ⟨fun s u hinv hs hu hcfg => ?saved, fun s rec hlife hheader => (loadSnapshot_running hlife rec).1 hheader,
    fun s rec hlife hversion hsize horigin => ?refused, fun s t rec hinv hload => ?loaded⟩
  case saved =>
    refine ⟨_, if_pos hs, ?_⟩
    rw [(loadSnapshot_running hu _).2 rfl rfl, if_pos]
    · rfl
    · rw [hcfg]
      exact Snapshot.saved_iff.2 ⟨rfl, hinv.body_ok⟩
  case refused =>
    rw [(loadSnapshot_running hlife rec).2 hversion hsize, if_neg]
    exact fun hsaved => horigin (Snapshot.saved_iff.1 hsaved).1
  case loaded =>
    obtain ⟨hsaved, rfl⟩ := loadSnapshot_true hload
    obtain ⟨horigin, hbody⟩ := Snapshot.saved_iff.1 hsaved
    exact ⟨hinv.restore hbody, horigin, rfl, rfl, rfl⟩

end Machine

end Sys2Proof
end

section
/-! SUPPORT. The proofs of O57 and O58. Every block input and every block output is one equation: its body with the step of its
addresses, then an end that goes again or counts 16 cycles (47_io.md R506 to R514). Both bodies count B down, step HL and write F
alike. -/

namespace Sys2Proof.Machine

/-! ### The end of an iteration -/

/-- The end of a block input or output: PC back at the first byte where it goes `again`, else 16 cycles; WZ as the body left it
(47_io.md R511). -/
def State.endIo (s : State) (again : Bool) : State := if again then s.repeatInstr else s.took 16

section
variable (s : State) (again : Bool)

/-- The end writes PC and the cycles only. -/
theorem State.endIo_state :
    s.endIo again = { s with
      cpu := { s.cpu with pc := (s.endIo again).cpu.pc }, stepCycles := (s.endIo again).stepCycles } := by
  cases again <;> rfl

@[simp] theorem State.endIo_cfg : (s.endIo again).cfg = s.cfg := by cases again <;> rfl
@[simp] theorem State.endIo_main : (s.endIo again).cpu.main = s.cpu.main := by cases again <;> rfl
@[simp] theorem State.endIo_f : (s.endIo again).f = s.f := congrArg RegSet.f (s.endIo_main again)
@[simp] theorem State.endIo_hl : (s.endIo again).hl = s.hl := congrArg RegSet.hl (s.endIo_main again)

end

/-- Where the end leaves PC, and its cycles, for a condition `p` that decides whether the instruction goes again. -/
theorem State.endIo_progress {s : State} {pc : Word} (hpc : s.cpu.pc = pc) {again : Bool} {p : Prop} [Decidable p]
    (hagain : again = true ↔ p) :
    if p then (s.endIo again).cpu.pc = pc - 2 ∧ (s.endIo again).stepCycles = 21
    else (s.endIo again).cpu.pc = pc ∧ (s.endIo again).stepCycles = 16 := by
  subst hpc
  split
  case isTrue hp =>
    rw [hagain.2 hp]
    exact ⟨rfl, rfl⟩
  case isFalse hp =>
    rw [Bool.eq_false_iff.2 (mt hagain.1 hp)]
    exact ⟨rfl, rfl⟩

/-! ### The registers and the flags -/

/-- The main set with B counted down and HL stepped (47_io.md R506, R508). -/
def RegSet.counted (m : RegSet) (step : Word) : RegSet := { m with b := m.b - 1 }.putHL (m.hl + step)

theorem RegSet.counted_hl (m : RegSet) (step : Word) : (m.counted step).hl = m.hl + step := joinBytes_hi_lo _

theorem ofNat_and_seven (k : Nat) : BitVec.ofNat 8 k &&& 7 = BitVec.ofNat 8 (k % 8) := by
  apply BitVec.eq_of_toNat_eq
  have hmask : (BitVec.ofNat 8 k &&& 7).toNat = k % 256 % 8 := by
    rw [BitVec.toNat_and, BitVec.toNat_ofNat]
    exact Nat.and_two_pow_sub_one_eq_mod (k % 256) 3
  rw [hmask, BitVec.toNat_ofNat]
  omega

/-- The flags of a block input or output by name: S, Z, Y and X of the counted B, N the byte's bit 7, C and H the carry of `k`
(47_io.md R510). -/
theorem blockIoFlags_eq (v : Byte) (k : Nat) (b : Byte) :
    blockIoFlags v k b = Flags.pack ⟨decide (b.toInt < 0), b == 0, decide (255 < k), evenOnes (BitVec.ofNat 8 (k % 8) ^^^ b),
      v.getLsbD 7, decide (255 < k), b.getLsbD 5, b.getLsbD 3⟩ := by
  unfold blockIoFlags Flags.pack
  rw [← getLsbD_seven_eq_neg, ofNat_and_seven, parity_eq_evenOnes]

/-- C stepped with the addresses, as a number modulo 2^8 (47_io.md R506, R507). -/
theorem BlockKind.add_lo_step_toNat (k : BlockKind) (c : Byte) :
    ((c + lo k.step).toNat : Int) = ((c.toNat : Int) + (if k.up then 1 else -1)) % 256 := by
  have hstep : (lo k.step).toNat = if k.up then 1 else 255 := by
    unfold BlockKind.step
    cases k.up <;> rfl
  rw [BitVec.toNat_add, hstep]
  split <;> omega

/-! ### Inputs -/

section
variable (s : State) (step : Word)

/-- An input reads the port of BC, writes the byte at (HL), steps the registers and WZ, and writes F (47_io.md R506). -/
theorem State.inStep_eq :
    s.inStep step = ((((s.ioRead s.bc).2.setWz (s.bc + step)).memWrite s.hl (s.ioRead s.bc).1).setMain
      (s.cpu.main.counted step)).writeFlags (blockIoFlags (s.ioRead s.bc).1
        ((s.ioRead s.bc).1.toNat + (s.cpu.main.c + lo step).toNat) (s.cpu.main.b - 1)) := by
  unfold State.inStep
  simp only [State.memWrite_cpu, State.setWz_main, State.ioRead_cpu]
  rfl

/-- The store of an input reaches the devices as the port read left them. -/
theorem State.memWrite_after_ioRead (port wz a : Word) (v : Byte) :
    ((s.ioRead port).2.setWz wz).memWrite a v = { State.writeAll [(a, v)] { s with io := (s.ioRead port).2.io } with
      cpu := { s.cpu with wz := wz }, draws := (s.ioRead port).2.draws } := by
  conv => lhs; rw [State.ioRead_state]
  refine (State.writeAll_withCpu [(a, v)] { s with io := (s.ioRead port).2.io } { s.cpu with wz := wz } _ s.stepCycles).trans ?_
  rw [State.writeAll_state]

/-- In the CPU, an input writes the main set and WZ only. -/
theorem State.inStep_cpu :
    (s.inStep step).cpu = { s.cpu with
      main := { s.cpu.main.counted step with f := (s.inStep step).f }, wz := s.bc + step } := by
  rw [State.inStep_eq, State.writeFlags_state, State.memWrite_after_ioRead]
  rfl

/-- Outside the CPU and the count of draws, an input is its one store. -/
theorem State.inStep_frame :
    s.inStep step = { State.writeAll [(s.hl, (s.ioRead s.bc).1)] { s with io := (s.ioRead s.bc).2.io } with
      cpu := (s.inStep step).cpu
      draws := (s.inStep step).draws } := by
  rw [State.inStep_eq, State.writeFlags_state, State.memWrite_after_ioRead]
  rfl

/-- The flags of R510 with k from the byte and the stepped C (47_io.md R506, R510). -/
theorem State.inStep_flags :
    let v := (s.ioRead s.bc).1
    let b := s.cpu.main.b - 1
    let k := v.toNat + (s.cpu.main.c + lo step).toNat
    (s.inStep step).flagsAre ⟨decide (b.toInt < 0), b == 0, decide (255 < k), evenOnes (BitVec.ofNat 8 (k % 8) ^^^ b),
      v.getLsbD 7, decide (255 < k), b.getLsbD 5, b.getLsbD 3⟩ := by
  rw [State.inStep_eq, blockIoFlags_eq]
  exact State.writeFlags_pack ..

end

/-- Every block input is its body, then the end, which goes again in a repeating form while B is not 0 (47_io.md R506, R507, R511,
R512). -/
theorem exec_of_blockIn {i : Instr} {k : BlockKind} (h : blockIn i = some k) (s : State) :
    exec i s = .next ((s.inStep k.step).endIo (k.repeats && (s.inStep k.step).cpu.main.b != 0)) := by
  unfold blockIn at h
  split at h <;> cases h <;> rfl

/-- Settles O57: by `exec_of_blockIn`, what an input's body and the end leave. -/
theorem blockInputs : Obligations.BlockInputs := by
  unfold Obligations.BlockInputs
  intro i k s h v b sum
  have hcpu := s.inStep_cpu k.step
  have hb : s.cpu.main.b - 1 = b := byte_sub_one_eq_ofInt _
  have hsum : ((v.toNat + (s.cpu.main.c + lo k.step).toNat : Nat) : Int) = sum := by
    rw [Nat.cast_add, k.add_lo_step_toNat]
  refine ⟨_, exec_of_blockIn h s, ?hl, ?cpu, ?flags, ?progress, State.stores_of_eq ?frame⟩
  case hl =>
    rw [State.endIo_hl, State.hl, hcpu, k.next_eq]
    exact RegSet.counted_hl ..
  case cpu =>
    rw [State.endIo_state, hcpu, k.next_eq, ← hb]
    rfl
  case flags =>
    have hflags := s.inStep_flags k.step
    simp only [hb] at hflags
    have hcarry : decide (255 < sum) = decide (255 < v.toNat + (s.cpu.main.c + lo k.step).toNat) := by
      rw [← hsum]
      exact decide_eq_decide.2 Nat.cast_lt
    have hlow : BitVec.ofInt 8 (sum % 8) = BitVec.ofNat 8 ((v.toNat + (s.cpu.main.c + lo k.step).toNat) % 8) := by
      rw [← hsum]
      exact BitVec.ofInt_natCast 8 _
    rw [hcarry, hlow]
    exact State.flagsAre_congr (State.endIo_f ..) (State.endIo_cfg ..) hflags
  case progress =>
    refine State.endIo_progress (congrArg Cpu.pc hcpu) ?_
    rw [hcpu, ← hb]
    simp [RegSet.counted, RegSet.putHL]
  case frame => rw [State.endIo_state, State.inStep_frame]

/-! ### Outputs -/

section
variable (s : State) (step : Word)

/-- An output reads (HL), counts B down, writes the byte to the port of the new BC, steps HL and WZ, and writes F (47_io.md R508). -/
theorem State.outStep_eq :
    let v := (s.memRead s.hl).1
    let m := s.cpu.main.counted step
    s.outStep step = (((((s.memRead s.hl).2.setMain { s.cpu.main with b := m.b }).ioWrite (m.b ++ m.c) v).setMain m).setWz
      ((m.b ++ m.c) + step)).writeFlags (blockIoFlags v (v.toNat + m.l.toNat) m.b) := by
  intro v m
  unfold State.outStep
  simp only [State.setHL_eq, State.hl, State.bc, State.ioWrite_cpu, State.memRead_cpu, State.setMain_main]
  rfl

/-- The port write of an output reaches the devices as the read left them. -/
theorem State.ioWrite_after_memRead (a port : Word) (m : RegSet) (v : Byte) :
    ((s.memRead a).2.setMain m).ioWrite port v = { ({ s with io := (s.memRead a).2.io } : State).ioWrite port v with
      cpu := { s.cpu with main := m }, draws := (s.memRead a).2.draws } := by
  conv => lhs; rw [State.memRead_state]
  refine (State.ioWrite_withCpu { s with io := (s.memRead a).2.io } { s.cpu with main := m } _ s.stepCycles port v).trans ?_
  conv => rhs; rw [State.ioWrite_state]
  rw [State.ioWrite_state]

/-- In the CPU, an output writes the main set and WZ only. -/
theorem State.outStep_cpu :
    (s.outStep step).cpu = { s.cpu with
      main := { s.cpu.main.counted step with f := (s.outStep step).f }
      wz := ((s.cpu.main.b - 1) ++ s.cpu.main.c) + step } := by
  rw [State.outStep_eq, State.writeFlags_state, State.ioWrite_after_memRead]
  rfl

/-- Outside the CPU and the count of draws, an output is its one port write. -/
theorem State.outStep_frame :
    s.outStep step = { ({ s with io := (s.memRead s.hl).2.io } : State).ioWrite ((s.cpu.main.b - 1) ++ s.cpu.main.c)
        (s.memRead s.hl).1 with
      cpu := (s.outStep step).cpu
      draws := (s.outStep step).draws } := by
  rw [State.outStep_eq, State.writeFlags_state, State.ioWrite_after_memRead]
  rfl

/-- The flags of R510 with k from the byte and the new L (47_io.md R508, R510). -/
theorem State.outStep_flags :
    let v := (s.memRead s.hl).1
    let b := s.cpu.main.b - 1
    let k := v.toNat + (s.outStep step).cpu.main.l.toNat
    (s.outStep step).flagsAre ⟨decide (b.toInt < 0), b == 0, decide (255 < k), evenOnes (BitVec.ofNat 8 (k % 8) ^^^ b),
      v.getLsbD 7, decide (255 < k), b.getLsbD 5, b.getLsbD 3⟩ := by
  rw [State.outStep_cpu, State.outStep_eq, blockIoFlags_eq]
  exact State.writeFlags_pack ..

end

/-- One byte went to a port, with the devices as an access before left them. -/
theorem State.outs_of_eq {s t : State} {dev : IoDevices} {port : Word} {v : Byte}
    (h : t = { ({ s with io := dev } : State).ioWrite port v with
      cpu := t.cpu, draws := t.draws, stepCycles := t.stepCycles }) : s.Outs dev port v t := by
  have houts : ({ s with io := dev } : State).Outs dev port v t := by
    rw [State.ioWrite_state] at h
    exact State.outs_of_ioWrite (s := { s with io := dev }) (by rw [h]) (by rw [h]) (by rw [h]) (by rw [h]) (by rw [h])
  exact ⟨houts.cfg, houts.clock, houts.life, houts.mem, houts.io, houts.ram, houts.bytes⟩

/-- Every block output is its body, then the end, which goes again in a repeating form while B is not 0 (47_io.md R508, R509,
R513, R514). -/
theorem exec_of_blockOut {i : Instr} {k : BlockKind} (h : blockOut i = some k) (s : State) :
    exec i s = .next ((s.outStep k.step).endIo (k.repeats && (s.outStep k.step).cpu.main.b != 0)) := by
  unfold blockOut at h
  split at h <;> cases h <;> rfl

/-- Settles O58: by `exec_of_blockOut`, what an output's body and the end leave. -/
theorem blockOutputs : Obligations.BlockOutputs := by
  unfold Obligations.BlockOutputs
  intro i k s h v b
  have hcpu := s.outStep_cpu k.step
  have hb : s.cpu.main.b - 1 = b := byte_sub_one_eq_ofInt _
  refine ⟨_, exec_of_blockOut h s, ?hl, ?cpu, ?flags, ?progress, State.outs_of_eq ?frame⟩
  case hl =>
    rw [State.endIo_hl, State.hl, hcpu, k.next_eq]
    exact RegSet.counted_hl ..
  case cpu =>
    rw [State.endIo_state, hcpu, k.next_eq, ← hb]
    rfl
  case flags =>
    have hflags := s.outStep_flags k.step
    simp only [hb] at hflags
    rw [State.endIo_main]
    exact State.flagsAre_congr (State.endIo_f ..) (State.endIo_cfg ..) hflags
  case progress =>
    refine State.endIo_progress (congrArg Cpu.pc hcpu) ?_
    rw [hcpu, ← hb]
    simp [RegSet.counted, RegSet.putHL]
  case frame =>
    rw [State.endIo_state, State.outStep_frame, ← hb]

end Sys2Proof.Machine
end

section
/-! SUPPORT. The proofs of O59 and O60: the CPU control instructions as updates of the state, and the flags of LD A,I and LD A,R
(48_cpu_control.md R550 to R571). -/

namespace Sys2Proof.Machine

/-- The interrupt mode of each value of the opcode field (48_cpu_control.md R555). -/
theorem imOf_eq : ∀ y : BitVec 3, imOf y = if y = 2 ∨ y = 6 then .im1 else if y = 3 ∨ y = 7 then .im2 else .im0 := by decide

theorem exec_im (y : BitVec 3) (s : State) :
    exec (.im y) s = .next { s with
      cpu := { s.cpu with im := if y = 2 ∨ y = 6 then .im1 else if y = 3 ∨ y = 7 then .im2 else .im0 }, stepCycles := 8 } := by
  rw [← imOf_eq]
  rfl

/-- Settles O59: each encoding is its rule's, and each meaning one update of the state. -/
theorem cpuControl : Obligations.CpuControl := by
  unfold Obligations.CpuControl
  refine ⟨rfl, rfl, rfl, rfl, fun _ => rfl, fun _ => rfl, rfl, rfl, fun s op y p => ?_⟩
  exact ⟨rfl, rfl, rfl, rfl, rfl, exec_im y s, rfl⟩

/-- The flags of LD A,I and LD A,R by name (48_cpu_control.md R560). -/
theorem ldAIFlags_eq (v : Byte) (iff2 : Bool) (f : Byte) :
    ldAIFlags v iff2 f = Flags.pack ⟨decide (v.toInt < 0), v == 0, false, iff2, false, flagC f, v.getLsbD 5, v.getLsbD 3⟩ := by
  rw [← getLsbD_seven_eq_neg]
  rfl

/-- LD A,I and LD A,R write A and F from the register read (48_cpu_control.md R560, R561). -/
theorem exec_ldA_of_refresh (refresh : Bool) (s : State) :
    exec (if refresh then .ldAR else .ldAI) s =
      .next ((s.readToA (if refresh then s.cpu.r else s.cpu.i)).took 9) := by
  cases refresh <;> rfl

/-- Settles O60: `ldAIFlags_eq` names the flags of the two reads, and the two writes are updates of the state. -/
theorem interruptAndRefreshRegisters : Obligations.InterruptAndRefreshRegisters := by
  unfold Obligations.InterruptAndRefreshRegisters
  refine ⟨rfl, rfl, rfl, rfl, fun s => ⟨fun refresh => ?read, rfl, rfl⟩⟩
  case read =>
    intro v
    exact exec_accumulator (p := (v, ldAIFlags v s.cpu.iff2 s.f)) (exec_ldA_of_refresh refresh s)
      (congrArg (Prod.mk v) (ldAIFlags_eq v s.cpu.iff2 s.f))

end Sys2Proof.Machine
end
